-- ==== Sys2Proof/Word.lean ====
section
/-! DEFINITION. The bytes of the wire and the finite masks of the Colpane 2410 (chapter 12). -/

namespace Sys2Proof

/-- One byte of a port's SPI lines (R210). -/
abbrev Byte := BitVec 8

/-- A set drawn from at most `n` listed choices, the first choice at bit 0 (R210, "A set of choices is a mask"). -/
abbrev Mask (n : Nat) := BitVec n

end Sys2Proof
end

