-- ==== Sys2Proof/Config.lean ====
section
/-! DEFINITION. What the manual leaves open: the free values. Nothing in Lean can evaluate one. -/

namespace Sys2Proof

/-- The four duration bytes of a TRACK_END record whose duration, in milliseconds, does not fit 4 bytes.
R148 gives the duration and R211 gives it 4 bytes; no rule states what is sent above 4,294,967,295 (log entry 3). -/
opaque Config.durationBeyond : Nat → BitVec 32

/-- The raw positions (horizontal, vertical) and the reports of rest the axes show once supply is applied for the
n-th time. R101 says that they are reported at once and gives no position (log entry 4). -/
opaque Config.encoderAtPowerOn : Nat → (Fin 4000000 × Fin 4000000) × (Bool × Bool)

end Sys2Proof
end

