-- ==== Sys2Proof/Syntax.lean ====
section
/-! DEFINITION. The commands of the block: one constructor of `Instr` per row of spec/opcode_table.json. -/

namespace Sys2Proof

/-- The three client ports (chapter 11). -/
inductive Port where
  | a | b | c
deriving DecidableEq, Repr

/-- One item for each port. -/
structure PerPort (α : Type) where
  a : α
  b : α
  c : α
deriving DecidableEq, Repr

/-- A round number 0..3 (chapter 9). -/
abbrev RoundNo := Fin 4

/-- An aim slot of the queue (R63). -/
abbrev SlotNo := Fin 16

/-- A request transaction on one port (R197, R209): the tag byte, the body bytes, as many as the body length byte
gave, and whether the select line stayed low until the status byte had been clocked out. -/
structure Frame where
  port : Port
  tag : Byte
  body : List Byte
  complete : Bool
deriving DecidableEq, Repr

/-- A pair of encoder readings with each stage's report of rest (R88). -/
structure Encoder where
  h : Int
  v : Int
  restH : Bool
  restV : Bool
deriving DecidableEq, Repr

/-- One sighting of a lock sensor frame (R105). -/
structure Sighting where
  x : Int
  y : Int
  strength : Nat
deriving DecidableEq, Repr

/-- A compensator sample (R153). -/
inductive TiltSample where
  | values (l t : Int)
  | overRange
deriving DecidableEq, Repr

/-- The distance unit's answer to a request (R119). -/
inductive DistanceAnswer where
  | distance (d : Nat)
  | noReturn
  | interrupted
deriving DecidableEq, Repr

/-- Per port, a request transaction under way when a part-wide reset is taken: the number of bytes clocked before
its status byte, when that status is clocked out (R208). -/
abbrev UnderWay := PerPort (Option Nat)

/-- The commands: the operations and events of spec/opcode_table.json. -/
inductive Instr where
  | powerOn
  | resetLine (underWay : UnderWay)
  | wakeLineAssert
  | wakeLineRelease
  | ignoredTransaction (p : Port) (first : Byte) (bytes : Nat)
  | unknownRequest (kind : Byte) (f : Frame)
  | replyRead (p : Port) (clocked : Nat)
  | fixRead (p : Port) (clocked : Nat)
  | readTarget (f : Frame)
  | readSet (f : Frame)
  | writeTarget (f : Frame)
  | writeTargetIfReserved (f : Frame)
  | forgetTarget (f : Frame)
  | waitChange (f : Frame)
  | aim (f : Frame)
  | aimDirection (f : Frame)
  | cancelAim (f : Frame)
  | wake (f : Frame)
  | startTrack (f : Frame)
  | stopTrack (f : Frame)
  | setOrientation (f : Frame)
  | checkOrientation (f : Frame)
  | readStation (f : Frame)
  | setTime (f : Frame)
  | alignMinute (f : Frame)
  | readTime (f : Frame)
  | setRound (f : Frame)
  | armRound (f : Frame)
  | disarmRound (f : Frame)
  | readRound (f : Frame)
  | clearFault (f : Frame)
  | rest (f : Frame)
  | readStatus (f : Frame)
  | setAttentionMode (f : Frame)
  | portReset (f : Frame)
  | setPermissions (f : Frame)
  | setPortLevels (f : Frame)
  | setConfig (f : Frame)
  | partReset (f : Frame) (underWay : UnderWay)
  | encoderReadings (e : Encoder)
  | stallDeadline
  | lockSensorFrame (sightings : List Sighting)
  | tiltSample (t : TiltSample)
  | clockCount
  | trackTick
  | roundFire (n : RoundNo)
  | distanceAnswer (request : Nat) (answer : DistanceAnswer)
  | distanceExpiry
  | retryDue (slot : SlotNo)
  | coastDeadline
  | holdDeadline
  | settleDeadline
  | idleDeadline
  | attentionPulseEnd (p : Port)
deriving DecidableEq, Repr

end Sys2Proof
end

