-- ==== Sys2Proof/WellFormed.lean ====
section
/-! DEFINITION. Which terms of `Instr` are commands the part can be given. -/

namespace Sys2Proof

/-- R209: the body length is one byte. -/
def Frame.wf (f : Frame) : Bool := f.body.length ≤ 255

/-- R209: first bytes of a transaction that is ignored: 0x00..0x0F, 0x80..0xA4, 0xA7..0xFF. -/
def ignoredFirstByte (b : Byte) : Bool :=
  b.toNat ≤ 0x0F || (0x80 ≤ b.toNat && b.toNat ≤ 0xA4) || 0xA7 ≤ b.toNat

/-- The request kinds of the table of section 12.2. -/
def definedKinds : List Nat :=
  [0x10, 0x11, 0x12, 0x13, 0x14, 0x15, 0x20, 0x21, 0x22, 0x23, 0x28, 0x29, 0x30, 0x31, 0x32, 0x38, 0x39, 0x3A] ++
  [0x40, 0x41, 0x42, 0x43, 0x48, 0x49, 0x50, 0x51, 0x52, 0x58, 0x59, 0x5A, 0x5B]

/-- A kind byte in 0x10..0x7F that the table of section 12.2 does not hold. -/
def unknownKind (b : Byte) : Bool :=
  0x10 ≤ b.toNat && b.toNat ≤ 0x7F && !definedKinds.contains b.toNat

/-- R88: an encoder position lies in 0..3,999,999. -/
def Encoder.wf (e : Encoder) : Bool :=
  0 ≤ e.h && e.h < 4000000 && 0 ≤ e.v && e.v < 4000000

/-- R105: a strength lies in 1..255; R210: a lock offset is a signed number of 2 bytes. -/
def Sighting.wf (g : Sighting) : Bool :=
  -32768 ≤ g.x && g.x ≤ 32767 && -32768 ≤ g.y && g.y ≤ 32767 && 1 ≤ g.strength && g.strength ≤ 255

/-- R105: a frame holds 0 to 4 sightings. -/
def sightingsWf (g : List Sighting) : Bool := g.length ≤ 4 && g.all Sighting.wf

/-- R153: each component of a sample within range lies in -750..+750. -/
def TiltSample.wf : TiltSample → Bool
  | .values l t => -750 ≤ l && l ≤ 750 && -750 ≤ t && t ≤ 750
  | .overRange => true

/-- The terms that are commands. -/
def Instr.wf : Instr → Bool
  | .ignoredTransaction _ first _ => ignoredFirstByte first
  | .unknownRequest kind f => unknownKind kind && f.wf
  | .encoderReadings e => e.wf
  | .lockSensorFrame g => sightingsWf g
  | .tiltSample t => t.wf
  | .partReset f _ => f.wf
  | .readTarget f | .readSet f | .writeTarget f | .writeTargetIfReserved f | .forgetTarget f | .waitChange f
  | .aim f | .aimDirection f | .cancelAim f | .wake f | .startTrack f | .stopTrack f | .setOrientation f
  | .checkOrientation f | .readStation f | .setTime f | .alignMinute f | .readTime f | .setRound f | .armRound f
  | .disarmRound f | .readRound f | .clearFault f | .rest f | .readStatus f | .setAttentionMode f | .portReset f
  | .setPermissions f | .setPortLevels f | .setConfig f => f.wf
  | .powerOn | .resetLine _ | .wakeLineAssert | .wakeLineRelease | .replyRead _ _ | .fixRead _ _ | .stallDeadline
  | .clockCount | .trackTick | .roundFire _ | .distanceAnswer _ _ | .distanceExpiry | .retryDue _ | .coastDeadline
  | .holdDeadline | .settleDeadline | .idleDeadline | .attentionPulseEnd _ => true

end Sys2Proof
end

