-- ==== Sys2Proof/Decode.lean ====
section
/-! DEFINITION. Commands from bits. spec/opcode_table.json gives no row any bits; R209 tells the transactions of a port
apart by the bytes the master sends. -/

namespace Sys2Proof

/-- No row of the table gives bits: no word spells a command. -/
def decodeTableWord (_nbits _w : Nat) : Option Instr := none

/-- Section 12.2: the command of a request kind. A PART_RESET so read interrupts no other transaction. -/
def requestCommand (kind : Byte) (f : Frame) : Instr :=
  match kind.toNat with
  | 0x10 => .readTarget f | 0x11 => .readSet f | 0x12 => .writeTarget f | 0x13 => .writeTargetIfReserved f
  | 0x14 => .forgetTarget f | 0x15 => .waitChange f | 0x20 => .aim f | 0x21 => .aimDirection f | 0x22 => .cancelAim f
  | 0x23 => .wake f | 0x28 => .startTrack f | 0x29 => .stopTrack f | 0x30 => .setOrientation f
  | 0x31 => .checkOrientation f | 0x32 => .readStation f | 0x38 => .setTime f | 0x39 => .alignMinute f
  | 0x3A => .readTime f | 0x40 => .setRound f | 0x41 => .armRound f | 0x42 => .disarmRound f | 0x43 => .readRound f
  | 0x48 => .clearFault f | 0x49 => .rest f | 0x50 => .readStatus f | 0x51 => .setAttentionMode f | 0x52 => .portReset f
  | 0x58 => .setPermissions f | 0x59 => .setPortLevels f | 0x5A => .setConfig f
  | 0x5B => .partReset f { a := none, b := none, c := none }
  | _ => .unknownRequest kind f

/-- R197, R209: a request transaction from the bytes after its kind. It is complete when a byte was clocked after the last
body byte, the one that brings the transaction status. Bytes clocked after that one are ignored (log entry 26: the
manual says nothing of them). -/
def requestFrame (p : Port) (sent : List Byte) : Frame :=
  { port := p, tag := sent.headD 0#8, body := (sent.drop 2).take (sent.getD 1 0#8).toNat,
    complete := 2 ≤ sent.length && (sent.getD 1 0#8).toNat < (sent.drop 2).length }

/-- R209: the command of a transaction on a port, from the bytes the master sends; none for a select without a byte. -/
def transactionCommand (p : Port) (sent : List Byte) : Option Instr :=
  match sent with
  | [] => none
  | first :: rest =>
    if first = 0xA5#8 then some (.replyRead p rest.length)
    else if first = 0xA6#8 then some (.fixRead p rest.length)
    else if ignoredFirstByte first then some (.ignoredTransaction p first sent.length)
    else some (requestCommand first (requestFrame p rest))

end Sys2Proof
end

