-- ==== Sys2Proof/Machine/State.lean ====
section
/-! DEFINITION. The state of the block: every record the manual gives one of its blocks, and the value after power-on. -/

namespace Sys2Proof.Machine

/-! ### Angles, time and codes -/

/-- A pair of horizontal and vertical readings, in cu (chapter 1). -/
structure Pointing where
  h : Int
  v : Int
deriving DecidableEq, Repr

/-- An azimuth and a face I zenith, in cu (R18). -/
structure Direction where
  azimuth : Int
  zenith : Int
deriving DecidableEq, Repr

/-- A longitudinal and a transverse tilt, in cu (R9). -/
structure Tilt where
  l : Int
  t : Int
deriving DecidableEq, Repr

/-- An image offset from the crosshair (R105). -/
structure Offset where
  x : Int
  y : Int
deriving DecidableEq, Repr

/-- The two faces (R3). -/
inductive Face where
  | i | ii
deriving DecidableEq, Repr

/-- The face an aim asks for (R13). -/
inductive FaceAsked where
  | i | ii | nearer
deriving DecidableEq, Repr

/-- Priority levels (R68). -/
inductive Level where
  | urgent | normal | background
deriving DecidableEq, Repr

/-- A clock reading as records carry it (section 9.1). -/
structure Epoch where
  year : Nat
  month : Nat
  day : Nat
  hour : Nat
  minute : Nat
  second : Nat
  sub : Nat
deriving DecidableEq, Repr

/-- The calendar clock (section 9.1). -/
structure Clock where
  year : Nat
  month : Nat
  day : Nat
  weekday : Nat
  hour : Nat
  minute : Nat
  second : Nat
  sub : Nat
  valid : Bool
deriving DecidableEq, Repr

/-- The status codes of section 12.3. -/
inductive Status where
  | ok | kept | busy | noSuchTarget | badValue | setFull | noReservation | queueFull | noOrientation
  | notPermitted | unknownRequest | axesHeld | clockUnset | noReferences | noSuchWork
  | locked | lockedNoRange | notFound | obstructed | ambiguous | unsteady | outOfLevel | outOfReach
  | driveFault | cancelled | tracking | coasting
  | stopTrack | lost | holdExpired | incomplete | confirmed | adopted | rejected
deriving DecidableEq, Repr

/-- Flags of an observation (R121). -/
structure ObsFlags where
  drift : Bool
  suspect : Bool
  learned : Bool
  learnSkipped : Bool
deriving DecidableEq, Repr

/-! ### The target table (chapter 2) -/

inductive Role where
  | monitor | reference | machine | point
deriving DecidableEq, Repr

inductive EntryClass where
  | retained | transient
deriving DecidableEq, Repr

inductive Source where
  | entered | learned
deriving DecidableEq, Repr

/-- The last observation of an entry (section 2.2). -/
structure LastObservation where
  epoch : Option Epoch
  readings : Option Pointing
  direction : Option Direction
  distance : Option Nat
  status : Status
  flags : ObsFlags
deriving DecidableEq, Repr

/-- A target entry (section 2.2). Its use count is computed (R26). -/
structure Entry where
  id : Nat
  role : Role
  cls : EntryClass
  pinned : Bool
  rounds : Mask 4
  azimuth : Int
  zenith : Int
  source : Source
  window : Nat
  tolerance : Nat
  retryLimit : Nat
  missCount : Nat
  owner : Port
  lastObs : Option LastObservation
deriving DecidableEq, Repr

/-- A set: four ways and their recency order, most recent first (R23, R27). -/
structure TableSet where
  ways : Vector (Option Entry) 4
  order : List (Fin 4)
deriving DecidableEq, Repr

/-! ### Observations, solutions and records -/

/-- What an aim is aimed at (section 4.1). -/
inductive AimTarget where
  | entry (id : Nat)
  | direct (pointing : Pointing) (window : Nat) (retryLimit : Nat)
deriving DecidableEq, Repr

/-- The solution of stages 1 to 6 (R13). -/
structure Solution where
  face : Face
  target : Pointing
  raw : Pointing
  turnH : Int
  turnV : Int
  tilt : Tilt
deriving DecidableEq, Repr

inductive OrientationState where
  | unset | set | suspect
deriving DecidableEq, Repr

/-- The observation record of an attempt (R121). `tilt` is absent for the mark over range. -/
structure Observation where
  target : AimTarget
  attempt : Nat
  status : Status
  epoch : Option Epoch
  sight : Option (Face × Pointing)
  direction : Option Direction
  tilt : Option Tilt
  residual : Option Offset
  distance : Option Nat
  flags : ObsFlags
deriving DecidableEq, Repr

/-- Where a fix was formed (R141). -/
inductive FixState where
  | tracking | coasting
deriving DecidableEq, Repr

/-- A fix record (R141). -/
structure Fix where
  epoch : Option Epoch
  state : FixState
  readings : Pointing
  direction : Option Direction
  residual : Offset
  distance : Option Nat
deriving DecidableEq, Repr

/-- The kinds of reply record (R200). -/
inductive ReplyKind where
  | done | refusal | observation | change | trackEnd | checkResult | roundSummary
deriving DecidableEq, Repr

/-- What a reply record answers: a tag, or the origin ROUND n (R200). -/
inductive ReplyOrigin where
  | tag (t : Byte)
  | round (n : RoundNo)
deriving DecidableEq, Repr

/-- A reply record with its body laid out as chapter 12 gives. -/
structure Reply where
  kind : ReplyKind
  origin : ReplyOrigin
  status : Status
  body : List Byte
deriving DecidableEq, Repr

/-! ### Ports and claims (chapters 3 and 11) -/

/-- A member of a port's held list (R79): a DONE_HELD aim, or a held record of another block. `deferred` says whether
the record is the final record of an open deferred request of the port (R199). -/
inductive Held where
  | aim (slot : SlotNo)
  | record (r : Reply) (deferred : Bool)
deriving DecidableEq, Repr

inductive AttentionMode where
  | level | pulse
deriving DecidableEq, Repr

/-- The port record (section 11.1), with the end of an attention pulse in progress (R203) and the bytes the part
clocked out in the port's last transaction (log entry 5). The open deferred count is computed (R199). -/
structure PortRecord where
  replies : List Reply
  held : List Held
  notices : Mask 10
  fix : Option Fix
  overrun : Nat
  mode : AttentionMode
  permissions : Mask 8
  defaultLevel : Level
  ceiling : Level
  pulse : Option Nat
  out : List Byte
deriving DecidableEq, Repr

/-- What the reservation unit holds for a port (section 3.1). -/
structure Claim where
  reservation : Option Nat
  wait : Option Byte
deriving DecidableEq, Repr

/-- Causes a CHANGE record carries (R55). -/
inductive ChangeCause where
  | written | observed | forgotten | evicted | replaced
deriving DecidableEq, Repr

/-! ### The aim queue and the grant (chapter 4) -/

inductive Origin where
  | port
  | round (n : RoundNo)
  | check
deriving DecidableEq, Repr

/-- R64, with the item each state alone carries. -/
inductive AimState where
  | queued
  | active
  | retryWait (due : Nat)
  | doneHeld (record : Reply)
deriving DecidableEq, Repr

/-- An aim (section 4.1). -/
structure Aim where
  tag : Option Byte
  port : Port
  origin : Origin
  target : AimTarget
  face : FaceAsked
  learn : Bool
  range : Bool
  level : Level
  attempts : Nat
  sequence : BitVec 32
  state : AimState
  lastStatus : Option Status
  lastObservation : Option Observation
deriving DecidableEq, Repr

inductive GrantTrack where
  | absent
  | waiting (sequence : BitVec 32)
  | holding (suspended : Bool)
deriving DecidableEq, Repr

/-- The axes grant (section 4.3). -/
structure Grant where
  active : Option SlotNo
  track : GrantTrack
deriving DecidableEq, Repr

/-! ### Drive and acquisition (chapters 5 and 6) -/

inductive Commander where
  | acquisition | track
deriving DecidableEq, Repr

structure Move where
  target : Pointing
  commander : Option Commander
  stopping : Bool
  deadline : Nat
deriving DecidableEq, Repr

inductive FaultCause where
  | stall | displaced
deriving DecidableEq, Repr

/-- The drive record (section 5.1), each item where its state has it. -/
inductive Drive where
  | off
  | settling
  | holding (held : Pointing)
  | moving (m : Move)
  | fault (cause : FaultCause)
deriving DecidableEq, Repr

/-- Phases of an attempt; IDLE is the absence of an attempt record (section 6.1). -/
inductive Phase where
  | turning | sensing | searching | fine | ranging
deriving DecidableEq, Repr

/-- The search cursor (R109). -/
structure Cursor where
  rings : Nat
  ring : Nat
  index : Nat
deriving DecidableEq, Repr

/-- The lock result (R117). -/
structure LockResult where
  face : Face
  readings : Pointing
  direction : Option Direction
  residual : Offset
  tilt : Tilt
  orientation : OrientationState
  omega : Int
  epoch : Option Epoch
deriving DecidableEq, Repr

/-- The attempt record (section 6.1). -/
structure Attempt where
  slot : SlotNo
  phase : Phase
  solution : Solution
  reachedSensing : Bool
  cursor : Option Cursor
  corrections : Nat
  empties : Nat
  lastSighting : Option Sighting
  lock : Option LockResult
deriving DecidableEq, Repr

/-- The distance request record while IN_FLIGHT; its absence is FREE (section 6.1). `number` tells the request apart
from those before it (log entry 12). -/
structure DistanceRequest where
  requester : Commander
  abandoned : Bool
  expiry : Nat
  number : Nat
deriving DecidableEq, Repr

/-! ### Tracking (chapter 7) -/

/-- States of a running track; ENDED is the absence of a track record (R132). -/
inductive TrackState where
  | acquiring | tracking | coasting | searching | suspended
deriving DecidableEq, Repr

inductive AcquirePhase where
  | turning | sensing | searching
deriving DecidableEq, Repr

inductive Interval where
  | sixteenth | eighth | quarter | half | one | ten | sixty | sixHundred
deriving DecidableEq, Repr

structure LastSeen where
  readings : Pointing
  direction : Option Direction
  residual : Offset
  orientation : OrientationState
deriving DecidableEq, Repr

structure Anchor where
  raw : Pointing
  zenith : Int
deriving DecidableEq, Repr

/-- The track record (section 7.1). `holdPassed` says that the hold deadline has arrived (R146; log entry 21). -/
structure Track where
  state : TrackState
  owner : Port
  tag : Byte
  target : Nat
  interval : Interval
  range : Bool
  acceptedAt : Nat
  holdDeadline : Option Nat
  holdPassed : Bool
  aimsWaiting : Bool
  solution : Option Solution
  acquirePhase : Option AcquirePhase
  lastSeen : Option LastSeen
  anchor : Option Anchor
  coastDeadline : Option Nat
  cursor : Option Cursor
  centreLook : Bool
  latestDistance : Option Nat
  lastFix : Option Fix
  overrunTotal : Nat
deriving DecidableEq, Repr

/-! ### Station, rounds, power and settings (chapters 8 to 11) -/

/-- An item of a running check; `outcome` absent is PENDING (section 8.4). -/
structure CheckItem where
  id : Nat
  outcome : Option Status
  deviation : Option (Int × Nat)
deriving DecidableEq, Repr

/-- The check record (section 8.4). `counted` says whether the check still counts toward the requesting port's open
deferred requests: a PORT_RESET of that port ends the counting (R165). -/
structure Check where
  port : Port
  tag : Byte
  adopt : Bool
  items : List CheckItem
  counted : Bool
deriving DecidableEq, Repr

/-- The station record (section 8.1). -/
structure Station where
  omega : Int
  state : OrientationState
  reference : Option Tilt
  latest : Option TiltSample
  check : Option Check
deriving DecidableEq, Repr

/-- A round's match (R175). -/
inductive RoundMatch where
  | never
  | second (s : Nat)
  | minute (m s : Nat)
  | hour (h m s : Nat)
  | weekday (w h m s : Nat)
  | day (d h m s : Nat)
deriving DecidableEq, Repr

inductive RoundState where
  | disarmed | armed | running
deriving DecidableEq, Repr

/-- A round record (section 9.4). Its outstanding count is computed (R69). -/
structure Round where
  matching : RoundMatch
  reportPort : Port
  level : Level
  range : Bool
  state : RoundState
  stopping : Bool
  cursor : Nat
  locked : Nat
  failed : Nat
  skipped : Nat
  missed : Nat
  started : Option Epoch
deriving DecidableEq, Repr

/-- The power record (section 10.1), each item where its state has it. The wake causes are a mask over
QUEUE, TRACK, CHECK, ROUND, REQUEST, LINE. -/
inductive Power where
  | rest
  | waking (settle : Nat) (causes : Mask 6)
  | run (idle : Option Nat)
deriving DecidableEq, Repr

/-- The ten configuration parameters (R206). -/
structure Settings where
  retryDelay : Nat
  settleDelay : Nat
  idleRest : Nat
  holdLimit : Nat
  tiltGuard : Nat
  lockTolerance : Nat
  minStrength : Nat
  separationGuard : Nat
  coastTime : Nat
  adoptLimit : Nat
deriving DecidableEq, Repr

/-! ### The machine -/

structure State where
  pending : List Instr
  elapsed : Nat
  clock : Clock
  tickDue : Option Clock
  boundary : Option Clock
  untested : List RoundNo
  sets : Vector TableSet 32
  ports : PerPort PortRecord
  claims : PerPort Claim
  slots : Vector (Option Aim) 16
  grant : Grant
  sequence : BitVec 32
  drive : Drive
  encoder : Encoder
  attempt : Option Attempt
  distance : Option DistanceRequest
  requests : Nat
  track : Option Track
  station : Station
  rounds : Vector Round 4
  power : Power
  wakeLine : Bool
  settings : Settings
  powerOns : Nat
deriving DecidableEq, Repr

/-- Reasons for a fault. There is none: no rule of the manual stops the block (FAULT is a state of the drive, R96). -/
inductive Fault where
deriving DecidableEq, Repr

/-- Reasons for a refusal. -/
inductive Refusal where
  /-- An arm of `exec` without a meaning. Safe. No arm answers so. -/
  | notModelled (mnemonic : String)
  /-- Raised by the meanings of IGNORED_TRANSACTION, UNKNOWN_REQUEST, ENCODER_READINGS, LOCK_SENSOR_FRAME and
  TILT_SAMPLE on an operand that lies outside the row (`Instr.wf` false): no sender can produce it. Safe (log entry 15). -/
  | notACommand
deriving DecidableEq, Repr

/-! ### The values after power-on -/

/-- R45. -/
def TableSet.reset : TableSet := { ways := Vector.replicate 4 none, order := [3, 2, 1, 0] }

/-- Section 11.1 and R208: the port record after power-on, with PART_RESET (bit 0) and CLOCK_UNSET (bit 9). -/
def PortRecord.reset (permissions : Mask 8) (defaultLevel ceiling : Level) : PortRecord :=
  { replies := [], held := [], notices := 0b1000000001#10, fix := none, overrun := 0, mode := .level,
    permissions := permissions, defaultLevel := defaultLevel, ceiling := ceiling, pulse := none, out := [] }

/-- R204 (section 11.1) and R68: A holds all groups; B and C hold TABLE_READ, AIM and TRACK. -/
def PortRecord.resetAll : PerPort PortRecord :=
  { a := .reset 0b11111111#8 .normal .urgent,
    b := .reset 0b00001101#8 .background .normal,
    c := .reset 0b00001101#8 .normal .normal }

/-- R60. -/
def Claim.reset : Claim := { reservation := none, wait := none }

/-- R169. -/
def Clock.reset : Clock :=
  { year := 0, month := 1, day := 1, weekday := 6, hour := 0, minute := 0, second := 0, sub := 0, valid := false }

/-- R166. -/
def Station.reset : Station := { omega := 0, state := .unset, reference := none, latest := none, check := none }

/-- R186. -/
def Round.reset : Round :=
  { matching := .never, reportPort := .a, level := .background, range := false, state := .disarmed, stopping := false,
    cursor := 0, locked := 0, failed := 0, skipped := 0, missed := 0, started := none }

/-- R206. -/
def Settings.reset : Settings :=
  { retryDelay := 2000, settleDelay := 400, idleRest := 0, holdLimit := 600, tiltGuard := 30, lockTolerance := 3,
    minStrength := 40, separationGuard := 400, coastTime := 2000, adoptLimit := 20 }

/-- The part after power-on: R45, R60, R85, R101, R130, R151, R166, R169, R186, R195, R206, R208. The encoder positions,
the level of the WAKE line, the elapsed-time base, `out`, `requests` and `powerOns` are the model's (log entries 1, 4, 5,
12, 23). -/
def State.reset : State :=
  { pending := [], elapsed := 0, clock := .reset, tickDue := none, boundary := none, untested := [],
    sets := Vector.replicate 32 .reset, ports := PortRecord.resetAll,
    claims := { a := .reset, b := .reset, c := .reset },
    slots := Vector.replicate 16 none, grant := { active := none, track := .absent }, sequence := 0#32,
    drive := .off, encoder := { h := 0, v := 0, restH := true, restV := true }, attempt := none, distance := none,
    requests := 0, track := none, station := .reset, rounds := Vector.replicate 4 .reset, power := .rest,
    wakeLine := false, settings := .reset, powerOns := 0 }

end Sys2Proof.Machine
end

