-- ==== Sys2Proof/Machine/Solver.lean ====
section
/-! DEFINITION. The pointing solver (chapter 1): the ten stages over exact integers. It holds no state. -/

namespace Sys2Proof.Machine

/-! ### The circle -/

/-- R1: reduced to the circle. -/
def reduce (x : Int) : Int := x % 4000000

/-- R2: the quotient rounded to nearest, an exact half away from zero. -/
def roundDiv (a b : Int) : Int :=
  let q : Nat := (2 * a.natAbs + b.natAbs) / (2 * b.natAbs)
  if decide (a < 0) != decide (b < 0) then -(q : Int) else (q : Int)

/-- R3: the face of a zenith reading. -/
def faceOf (v : Int) : Face := if v < 2000000 then .i else .ii

/-- R3: the face I equivalent. -/
def faceIEquivalent (v : Int) : Int := if v < 2000000 then v else 4000000 - v

/-- R3: the face counterpart of a pointing. -/
def counterpart (p : Pointing) : Pointing := { h := reduce (p.h + 2000000), v := reduce (4000000 - p.v) }

/-- R4: the sighting band. -/
def inBand (v : Int) : Bool := 250000 ≤ faceIEquivalent v && faceIEquivalent v ≤ 1750000

/-- R4: clamped into the band, to the nearest band edge, ties to the face I edge. -/
def clampBand (v : Int) : Int :=
  if inBand v then v
  else if v < 250000 then 250000
  else if v ≤ 2000000 then 1750000
  else if v < 2250000 then 2250000
  else 3750000

/-- R18: an observed zenith clamped into the band where it is stored. -/
def clampStoredZenith (z : Int) : Int := if z < 250000 then 250000 else if 1750000 < z then 1750000 else z

/-! ### Stage 2: sine and cosine words

The words of R8 are the exact sine and cosine times 65,536 rounded to nearest. They are computed from the angle from the
horizon by a power series in fixed point with 64 fractional bits; log entry 14 says why the rounding is exact. -/

/-- One in the fixed point of the series. -/
def fixOne : Nat := 2 ^ 64

/-- A full turn over 4,000,000, in radians, with 96 fractional bits, rounded down. -/
def radiansPerCu : Nat := 124451306656115542615260

/-- 1 - y/k1 (1 - y/k2 (…)) with the divisors listed from the innermost. -/
def horner (y : Nat) (divisors : List Nat) : Nat :=
  divisors.foldl (fun acc k => fixOne - (y * acc) / (fixOne * k)) fixOne

/-- The angle of `d` cu in radians, fixed point. -/
def radians (d : Nat) : Nat := (d * radiansPerCu) / 2 ^ 32

/-- 65,536 times the cosine of an angle of `d` cu (at most 750,000), rounded to nearest. -/
def cosineOf (d : Nat) : Nat :=
  let y := (radians d * radians d) / fixOne
  (65536 * horner y [462, 380, 306, 240, 182, 132, 90, 56, 30, 12, 2] + fixOne / 2) / fixOne

/-- 65,536 times the sine of an angle of `d` cu (at most 750,000), rounded to nearest. -/
def sineOf (d : Nat) : Nat :=
  let y := (radians d * radians d) / fixOne
  let x := (radians d * horner y [506, 420, 342, 272, 210, 156, 110, 72, 42, 20, 6]) / fixOne
  (65536 * x + fixOne / 2) / fixOne

/-- The sine of the signed angle `d` times 65,536. -/
def signedSine (d : Int) : Int := if d < 0 then -(sineOf d.natAbs : Int) else (sineOf d.natAbs : Int)

/-- R8: the sine word S. In face I the sine-word zenith stands `d` past the horizon at 1,000,000 and its sine is the
cosine of `d`; in face II it stands `d` past 3,000,000 and its sine is minus that. -/
def sineWord (v : Int) : Int :=
  let z := clampBand v
  if z < 2000000 then (cosineOf (z - 1000000).natAbs : Int) else -(cosineOf (z - 3000000).natAbs : Int)

/-- R8: the cosine word C. -/
def cosineWord (v : Int) : Int :=
  let z := clampBand v
  if z < 2000000 then -(signedSine (z - 1000000)) else signedSine (z - 3000000)

/-! ### Stages 3 to 5 -/

/-- R9: the tilt correction of the horizontal reading. -/
def tiltCorrection (t v : Int) : Int := roundDiv (t * cosineWord v) (sineWord v)

/-- R10: the raw targets of target readings under a tilt. -/
def rawTargets (target : Pointing) (tilt : Tilt) : Pointing :=
  { h := reduce (target.h - tiltCorrection tilt.t target.v), v := reduce (target.v - tilt.l) }

/-- R11: the corrected readings of raw positions under a tilt. -/
def correctedReadings (raw : Pointing) (tilt : Tilt) : Pointing :=
  let v := reduce (raw.v + tilt.l)
  { h := reduce (raw.h + tiltCorrection tilt.t v), v := v }

/-- R19: the deviation of `a` from `b`; R12 uses the same form for a turn. -/
def dev (a b : Int) : Int := let d := reduce (a - b); if 2000000 < d then d - 4000000 else d

/-- R12: the turn of an axis from its current raw position to a raw target. -/
def turn (current target : Int) : Int := dev target current

/-! ### Stages 1 and 6: the solution -/

/-- R7: the target readings of a table target in a face. -/
def entryReadings (azimuth zenith omega : Int) : Face → Pointing
  | .i => { h := reduce (azimuth - omega), v := zenith }
  | .ii => { h := reduce (azimuth - omega + 2000000), v := 4000000 - zenith }

/-- R7: the target readings of a direct direction in a face. -/
def directReadings (p : Pointing) (f : Face) : Pointing := if faceOf p.v = f then p else counterpart p

/-- Stages 4 and 5 for target readings in a face (R10, R12). -/
def solutionFor (readings : Face → Pointing) (current : Pointing) (tilt : Tilt) (f : Face) : Solution :=
  let target := readings f
  let raw := rawTargets target tilt
  { face := f, target := target, raw := raw, turnH := turn current.h raw.h, turnV := turn current.v raw.v, tilt := tilt }

/-- R13: the face chosen; NEARER takes the smaller horizontal turn, ties to face I. -/
def chooseFace (readings : Face → Pointing) (current : Pointing) (tilt : Tilt) : FaceAsked → Solution
  | .i => solutionFor readings current tilt .i
  | .ii => solutionFor readings current tilt .ii
  | .nearer =>
    let one := solutionFor readings current tilt .i
    let two := solutionFor readings current tilt .ii
    if two.turnH.natAbs < one.turnH.natAbs then two else one

/-- The tilt of a latest sample: absent while no sample is held or the sample is over range (R6, OUT_OF_LEVEL). -/
def tiltOf : Option TiltSample → Option Tilt
  | some (.values l t) => some { l := l, t := t }
  | _ => none

/-- R6: the solution for a table target, or the first refusal that applies. -/
def solveEntry (orientation : OrientationState) (omega : Int) (sample : Option TiltSample) (current : Pointing)
    (azimuth zenith : Int) (asked : FaceAsked) : Except Status Solution :=
  if orientation = .unset then .error .noOrientation
  else match tiltOf sample with
    | none => .error .outOfLevel
    | some tilt => .ok (chooseFace (entryReadings azimuth zenith omega) current tilt asked)

/-- R6: the solution for a direct direction, or the first refusal that applies. -/
def solveDirect (sample : Option TiltSample) (current : Pointing) (p : Pointing) (asked : FaceAsked) :
    Except Status Solution :=
  match tiltOf sample with
  | none => .error .outOfLevel
  | some tilt => if inBand p.v then .ok (chooseFace (directReadings p) current tilt asked) else .error .outOfReach

/-! ### Stages 7 and 8, and the search -/

/-- R6: lock offsets clamped to ±2,000. -/
def clampOffset (x : Int) : Int := if x < -2000 then -2000 else if 2000 < x then 2000 else x

/-- R14: the horizontal fine correction of an offset at a corrected zenith. -/
def lockCorrection (x v : Int) : Int := roundDiv (clampOffset x * 65536) ((sineWord v).natAbs : Int)

/-- R14, R15: the raw targets of a fine correction, and the corrected zenith of the vertical target. -/
def fineTargets (current : Pointing) (tilt : Tilt) (o : Offset) : Pointing × Int :=
  let h := reduce (current.h + lockCorrection o.x (reduce (current.v + tilt.l)))
  let v := reduce (current.v + clampOffset o.y)
  let zenith := reduce (v + tilt.l)
  if inBand zenith then ({ h := h, v := v }, zenith)
  else ({ h := h, v := reduce (clampBand zenith - tilt.l) }, clampBand zenith)

/-- R17: the observed readings of a centred prism. -/
def observedReadings (current : Pointing) (tilt : Tilt) (o : Offset) : Pointing :=
  let read := correctedReadings current tilt
  { h := reduce (read.h + lockCorrection o.x read.v), v := reduce (read.v + clampOffset o.y) }

/-- R18: the observed azimuth and zenith; absent while the orientation is UNSET. -/
def observedDirection (orientation : OrientationState) (omega : Int) (p : Pointing) : Option Direction :=
  if orientation = .unset then none
  else if p.v < 2000000 then some { azimuth := reduce (p.h + omega), zenith := p.v }
  else some { azimuth := reduce (p.h - 2000000 + omega), zenith := reduce (4000000 - p.v) }

/-- R16: the zenith lies inside the band of the centre's face. -/
def inBandOfFace (centre zenith : Int) : Bool :=
  if centre < 2000000 then 250000 ≤ zenith && zenith ≤ 1750000 else 2250000 ≤ zenith && zenith ≤ 3750000

/-- R16: the raw targets of search position (i, j) about a centre, absent outside the band. -/
def searchTargets (centre : Pointing) (zenith : Int) (i j : Int) : Option Pointing :=
  if inBandOfFace zenith (reduce (zenith + j * 1500)) then
    some { h := reduce (centre.h + roundDiv (i * 1500 * 65536) ((sineWord zenith).natAbs : Int)),
           v := reduce (centre.v + j * 1500) }
  else none

/-- R109: the ring count of a window, the window over 1,500 rounded up. -/
def ringCount (window : Nat) : Nat := (window + 1499) / 1500

/-- R110: the position of index `n` (1..8k) of ring `k`. -/
def ringPosition (k n : Nat) : Int × Int :=
  let K : Int := k
  let N : Int := n
  if n ≤ k + 1 then (K, N - 1)
  else if n ≤ 3 * k + 1 then (2 * K + 1 - N, K)
  else if n ≤ 5 * k + 1 then (-K, 4 * K + 1 - N)
  else if n ≤ 7 * k + 1 then (N - 6 * K - 1, -K)
  else (K, N - 8 * K - 1)

/-- R109: the cursor at the start of a search. -/
def Cursor.start (window : Nat) : Cursor := { rings := ringCount window, ring := 1, index := 1 }

/-- R110, R112: the next position, absent past the last index of the last ring. -/
def nextCursor (c : Cursor) : Option Cursor :=
  if c.index < 8 * c.ring then some { c with index := c.index + 1 }
  else if c.ring < c.rings then some { c with ring := c.ring + 1, index := 1 }
  else none

/-- R111: the first position at or after the cursor that lies inside the band, with its raw targets. The fuel is the
number of positions a search can hold (R109: 288). -/
def seekPosition (centre : Pointing) (zenith : Int) : Nat → Cursor → Option (Cursor × Pointing)
  | 0, _ => none
  | fuel + 1, c =>
    match searchTargets centre zenith (ringPosition c.ring c.index).1 (ringPosition c.ring c.index).2 with
    | some target => some (c, target)
    | none =>
      match nextCursor c with
      | some c' => seekPosition centre zenith fuel c'
      | none => none

/-- R109: a search holds at most 288 positions. -/
def maxPositions : Nat := 288

/-! ### Selection of a sighting -/

/-- The three results of a judged frame (R106). -/
inductive Selection where
  | empty
  | selected (g : Sighting)
  | ambiguous (nearest : Sighting)
deriving DecidableEq, Repr

/-- R106: `g` comes before `best`: smaller x² + y², then greater strength; the first listed otherwise. -/
def nearerThan (g best : Sighting) : Bool :=
  let d := g.x * g.x + g.y * g.y
  let e := best.x * best.x + best.y * best.y
  d < e || (d = e && best.strength < g.strength)

/-- R106: two sightings lie within the separation guard. -/
def withinGuard (guard : Nat) (g k : Sighting) : Bool :=
  (g.x - k.x) * (g.x - k.x) + (g.y - k.y) * (g.y - k.y) ≤ (guard : Int) * guard

/-- R106: the position in the list and the sighting that is nearest, walking from a first candidate. -/
def nearestFrom (best : Nat × Sighting) : Nat → List Sighting → Nat × Sighting
  | _, [] => best
  | n, g :: rest => nearestFrom (if nearerThan g best.2 then (n, g) else best) (n + 1) rest

/-- R105, R106: the selection over a frame. -/
def selectSighting (minStrength guard : Nat) (frame : List Sighting) : Selection :=
  match frame.filter (fun g => minStrength ≤ g.strength) with
  | [] => .empty
  | g :: rest =>
    let best := nearestFrom (0, g) 1 rest
    let others := (g :: rest).eraseIdx best.1
    if others.any (withinGuard guard best.2) then .ambiguous best.2 else .selected best.2

/-! ### Stages 9 and 10 -/

/-- R20: the adoption mean of a list of deviations. -/
def adoptionMean (ds : List Int) : Int := roundDiv ds.sum (ds.length : Int)

/-- R20: the spread, largest deviation less smallest. -/
def spread : List Int → Int
  | [] => 0
  | d :: ds => ds.foldl max d - ds.foldl min d

/-- R94: the stall allowance for two turn magnitudes, in ms. -/
def stallAllowance (turnH turnV : Int) : Nat :=
  1500 + (roundDiv ((max turnH.natAbs turnV.natAbs : Nat) : Int) 450).toNat

end Sys2Proof.Machine
end

