-- ==== Sys2Proof/Machine/Wire.lean ====
section
/-! DEFINITION. What the part sends: field encodings, code tables and record bodies (chapter 12). -/

namespace Sys2Proof.Machine

/-! ### Fields (R210) -/

def u8 (n : Nat) : List Byte := [BitVec.ofNat 8 n]

/-- Multi-byte numbers go most significant byte first. -/
def u16 (n : Nat) : List Byte := [BitVec.ofNat 8 (n / 256), BitVec.ofNat 8 n]

def u32 (n : Nat) : List Byte :=
  [BitVec.ofNat 8 (n / 16777216), BitVec.ofNat 8 (n / 65536), BitVec.ofNat 8 (n / 256), BitVec.ofNat 8 n]

/-- Two's complement. -/
def i16 (x : Int) : List Byte := u16 (BitVec.ofInt 16 x).toNat

def i32 (x : Int) : List Byte := u32 (BitVec.ofInt 32 x).toNat

/-- An angle, ω or a distance: 4 bytes, unsigned. -/
def angle (x : Int) : List Byte := u32 x.toNat

/-- An absent field is sent as bytes of 0xFF. -/
def absentBytes (n : Nat) : List Byte := List.replicate n 0xFF#8

def yesNo (b : Bool) : List Byte := [if b then 1#8 else 0#8]

def epochBytes : Option Epoch → List Byte
  | none => absentBytes 8
  | some e => u8 e.year ++ u8 e.month ++ u8 e.day ++ u8 e.hour ++ u8 e.minute ++ u8 e.second ++ u16 e.sub

def pointingBytes : Option Pointing → List Byte
  | none => absentBytes 8
  | some p => angle p.h ++ angle p.v

def directionBytes : Option Direction → List Byte
  | none => absentBytes 8
  | some d => angle d.azimuth ++ angle d.zenith

def tiltBytes : Option Tilt → List Byte
  | none => absentBytes 4
  | some t => i16 t.l ++ i16 t.t

def offsetBytes : Option Offset → List Byte
  | none => absentBytes 4
  | some o => i16 o.x ++ i16 o.y

def distanceBytes : Option Nat → List Byte
  | none => absentBytes 4
  | some d => u32 d

/-- The flag mask: bit 0 DRIFT, bit 1 SUSPECT, bit 2 LEARNED, bit 3 LEARN_SKIPPED. -/
def flagMask (f : ObsFlags) : List Byte :=
  u8 (f.drift.toNat + 2 * f.suspect.toNat + 4 * f.learned.toNat + 8 * f.learnSkipped.toNat)

/-- The presence mask: bit 0 epoch; 1 readings; 2 direction; 3 tilt values; 4 residual; 5 distance. -/
def presenceMask (epoch readings direction tilt residual distance : Bool) : List Byte :=
  u8 (epoch.toNat + 2 * readings.toNat + 4 * direction.toNat + 8 * tilt.toNat + 16 * residual.toNat
    + 32 * distance.toNat)

/-! ### Codes (sections 12.2 and 12.3) -/

def Role.code : Role → Nat
  | .monitor => 1 | .reference => 2 | .machine => 3 | .point => 4

def EntryClass.code : EntryClass → Nat
  | .retained => 1 | .transient => 2

def Source.code : Source → Nat
  | .entered => 1 | .learned => 2

def Face.code : Face → Nat
  | .i => 1 | .ii => 2

def Level.code : Level → Nat
  | .urgent => 1 | .normal => 2 | .background => 3

def portCode : Port → Nat
  | .a => 1 | .b => 2 | .c => 3

def RoundMatch.code : RoundMatch → Nat
  | .never => 0 | .second _ => 1 | .minute _ _ => 2 | .hour _ _ _ => 3 | .weekday _ _ _ _ => 4 | .day _ _ _ _ => 5

def AttentionMode.code : AttentionMode → Nat
  | .level => 1 | .pulse => 2

def ChangeCause.code : ChangeCause → Nat
  | .written => 1 | .observed => 2 | .forgotten => 3 | .evicted => 4 | .replaced => 5

def FixState.code : FixState → Nat
  | .tracking => 1 | .coasting => 2

def OrientationState.code : OrientationState → Nat
  | .unset => 0 | .set => 1 | .suspect => 2

def Power.code : Power → Nat
  | .rest => 0 | .waking _ _ => 1 | .run _ => 2

def Drive.code : Drive → Nat
  | .off => 0 | .settling => 1 | .holding _ => 2 | .moving _ => 3 | .fault _ => 4

def FaultCause.code : FaultCause → Nat
  | .stall => 1 | .displaced => 2

def TrackState.code : TrackState → Nat
  | .acquiring => 1 | .tracking => 2 | .coasting => 3 | .searching => 4 | .suspended => 5

def RoundState.code : RoundState → Nat
  | .disarmed => 0 | .armed => 1 | .running => 2

def Status.code : Status → Nat
  | .ok => 0x00 | .kept => 0x01 | .busy => 0x02 | .noSuchTarget => 0x03 | .badValue => 0x04 | .setFull => 0x05
  | .noReservation => 0x06 | .queueFull => 0x07 | .noOrientation => 0x08 | .notPermitted => 0x09
  | .unknownRequest => 0x0A | .axesHeld => 0x0B | .clockUnset => 0x0C | .noReferences => 0x0D | .noSuchWork => 0x0E
  | .locked => 0x10 | .lockedNoRange => 0x11 | .notFound => 0x12 | .obstructed => 0x13 | .ambiguous => 0x14
  | .unsteady => 0x15 | .outOfLevel => 0x16 | .outOfReach => 0x17 | .driveFault => 0x18 | .cancelled => 0x1A
  | .tracking => 0x1B | .coasting => 0x1C | .stopTrack => 0x20 | .lost => 0x21 | .holdExpired => 0x22
  | .incomplete => 0x28 | .confirmed => 0x29 | .adopted => 0x2A | .rejected => 0x2B

def ReplyKind.code : ReplyKind → Nat
  | .done => 1 | .refusal => 2 | .observation => 3 | .change => 4 | .trackEnd => 5 | .checkResult => 6
  | .roundSummary => 7

/-- R197, R209: the transaction status byte. -/
inductive TransactionStatus where
  | accepted | portFull | badFrame
deriving DecidableEq, Repr

def TransactionStatus.byte : TransactionStatus → Byte
  | .accepted => 0x5A#8 | .portFull => 0xF1#8 | .badFrame => 0xE2#8

/-! ### Record bodies (R211, section 12.5) -/

def noFlags : ObsFlags := { drift := false, suspect := false, learned := false, learnSkipped := false }

/-- Observation body, 54 bytes with an observation and 13 without one. -/
def observationBody (target : AimTarget) (attempts : Nat) : Option Observation → List Byte
  | none => targetForm target ++ u8 attempts ++ u8 0
  | some o => targetForm target ++ u8 attempts ++ u8 1 ++ u8 o.attempt ++ u8 o.status.code
      ++ presenceMask o.epoch.isSome o.sight.isSome o.direction.isSome o.tilt.isSome o.residual.isSome o.distance.isSome
      ++ flagMask o.flags ++ epochBytes o.epoch
      ++ (match o.sight with | none => absentBytes 9 | some (f, p) => u8 f.code ++ pointingBytes (some p))
      ++ directionBytes o.direction ++ tiltBytes o.tilt ++ offsetBytes o.residual ++ distanceBytes o.distance
where
  /-- Target form, entry ID and direct pointing: offsets 0 to 10. -/
  targetForm : AimTarget → List Byte
    | .entry id => u8 0 ++ u16 id ++ absentBytes 8
    | .direct p _ _ => u8 1 ++ absentBytes 2 ++ pointingBytes (some p)

/-- Fix body, 35 bytes. -/
def fixBody (f : Fix) (overrun : Nat) : List Byte :=
  presenceMask f.epoch.isSome true f.direction.isSome false true f.distance.isSome
    ++ u8 f.state.code ++ u8 overrun ++ epochBytes f.epoch ++ pointingBytes (some f.readings)
    ++ directionBytes f.direction ++ offsetBytes (some f.residual) ++ distanceBytes f.distance

/-- The duration field of a TRACK_END record: a free value where it does not fit 4 bytes (log entry 3). -/
def durationBytes (ms : Nat) : List Byte :=
  if ms < 4294967296 then u32 ms else u32 (Config.durationBeyond ms).toNat

/-- TRACK_END body, 41 bytes. -/
def trackEndBody (lastFix : Option Fix) (ms overruns : Nat) : List Byte :=
  (match lastFix with
    | none => u8 0 ++ u8 0 ++ absentBytes 34
    | some f => u8 1 ++ fixBody f 0) ++ durationBytes ms ++ u8 overruns

/-- The last observation's part of the target entry body, offsets 25 to 56. -/
def lastObservationBytes : Option LastObservation → List Byte
  | none => u8 0 ++ u8 0 ++ absentBytes 1 ++ u8 0 ++ absentBytes 28
  | some o => u8 1
      ++ presenceMask o.epoch.isSome o.readings.isSome o.direction.isSome false false o.distance.isSome
      ++ u8 o.status.code ++ flagMask o.flags ++ epochBytes o.epoch ++ pointingBytes o.readings
      ++ directionBytes o.direction ++ distanceBytes o.distance

/-- Target entry body, 57 bytes. -/
def targetBody (setNo : Nat) (way : Fin 4) (e : Entry) (uses : Nat) : List Byte :=
  u8 setNo ++ u8 way.val ++ u16 e.id ++ u8 e.role.code ++ u8 e.cls.code ++ yesNo e.pinned ++ u8 e.rounds.toNat
    ++ angle e.azimuth ++ angle e.zenith ++ u8 e.source.code ++ u16 e.window ++ u16 e.tolerance ++ u8 e.retryLimit
    ++ u8 e.missCount ++ u8 (portCode e.owner) ++ u8 uses ++ lastObservationBytes e.lastObs

/-- A way summary of a READ_SET body, 9 bytes. -/
def waySummary (way : Fin 4) (e : Option Entry) (uses : Nat) : List Byte :=
  u8 way.val ++ match e with
    | none => u8 0 ++ absentBytes 7
    | some e => u8 1 ++ u16 e.id ++ u8 e.role.code ++ u8 e.cls.code ++ yesNo e.pinned ++ u8 uses ++ u8 e.source.code

/-- The answer to a write, 16 bytes: outcome (1 INSERTED, 2 REWRITTEN), set, way, the stored writable fields, and the
evicted ID or 0. -/
def writeBody (outcome setNo : Nat) (way : Fin 4) (e : Entry) (evicted : Option Nat) : List Byte :=
  u8 outcome ++ u8 setNo ++ u8 way.val ++ u16 e.id ++ u8 e.role.code ++ u8 e.cls.code ++ yesNo e.pinned
    ++ u8 e.rounds.toNat ++ u16 e.window ++ u16 e.tolerance ++ u8 e.retryLimit ++ u16 (evicted.getD 0)

/-- CHANGE body (R55). -/
def changeBody (id : Nat) (cause : ChangeCause) : List Byte := u16 id ++ u8 cause.code

/-- Every field of the clock record, in the order of section 9.1 (R172; log entry 9). -/
def clockBody (c : Clock) : List Byte :=
  u8 c.year ++ u8 c.month ++ u8 c.day ++ u8 c.weekday ++ u8 c.hour ++ u8 c.minute ++ u8 c.second ++ u16 c.sub
    ++ yesNo c.valid

/-- The match as SET_ROUND's body lays it out, with the bytes the range does not use sent as 0xFF. -/
def matchBytes (m : RoundMatch) : List Byte :=
  u8 m.code ++ match m with
    | .never => absentBytes 4
    | .second s => absentBytes 3 ++ u8 s
    | .minute m s => absentBytes 2 ++ u8 m ++ u8 s
    | .hour h m s => absentBytes 1 ++ u8 h ++ u8 m ++ u8 s
    | .weekday w h m s => u8 w ++ u8 h ++ u8 m ++ u8 s
    | .day d h m s => u8 d ++ u8 h ++ u8 m ++ u8 s

/-- The round record, 24 bytes. -/
def roundBody (r : Round) (outstanding : Nat) : List Byte :=
  matchBytes r.matching ++ u8 (portCode r.reportPort) ++ u8 r.level.code ++ yesNo r.range ++ u8 r.state.code
    ++ yesNo r.stopping ++ u8 r.cursor ++ u8 outstanding ++ u8 r.locked ++ u8 r.failed ++ u8 r.skipped ++ u8 r.missed
    ++ epochBytes r.started

/-- ROUND_SUMMARY body, 21 bytes: the ending (1 COMPLETED, 2 DISARMED), both epochs and the four counters. -/
def summaryBody (r : Round) (ending : Option Epoch) : List Byte :=
  u8 (if r.stopping then 2 else 1) ++ epochBytes r.started ++ epochBytes ending ++ u8 r.locked ++ u8 r.failed
    ++ u8 r.skipped ++ u8 r.missed

/-- One item of a CHECK_RESULT body, 7 bytes. -/
def checkItemBytes (i : CheckItem) : List Byte :=
  u16 i.id ++ (match i.outcome with | none => absentBytes 1 | some st => u8 st.code)
    ++ (match i.deviation with | none => absentBytes 4 | some (d, _) => i32 d)

/-- CHECK_RESULT body, 19 + 7k bytes. -/
def checkResultBody (items : List CheckItem) (before after : Int) (state : OrientationState) : List Byte :=
  let ds := items.filterMap (fun i => i.deviation.map (·.1))
  u8 items.length ++ items.flatMap checkItemBytes ++ u8 ds.length
    ++ (if ds.isEmpty then absentBytes 8 else i32 (adoptionMean ds) ++ i32 (spread ds))
    ++ angle before ++ angle after ++ u8 state.code

/-- SET_CONFIG's answer: the ten parameters, 2 bytes each, in the order of the table of R206. -/
def settingsBody (c : Settings) : List Byte :=
  u16 c.retryDelay ++ u16 c.settleDelay ++ u16 c.idleRest ++ u16 c.holdLimit ++ u16 c.tiltGuard ++ u16 c.lockTolerance
    ++ u16 c.minStrength ++ u16 c.separationGuard ++ u16 c.coastTime ++ u16 c.adoptLimit

/-- READ_STATION body, 18 bytes. -/
def stationBody (s : Station) : List Byte :=
  angle s.omega ++ u8 s.state.code ++ tiltBytes s.reference
    ++ (match s.latest with
        | none => u8 0 ++ absentBytes 4
        | some (.values l t) => u8 1 ++ i16 l ++ i16 t
        | some .overRange => u8 2 ++ absentBytes 4)
    ++ (match s.check with
        | none => u8 0 ++ absentBytes 3
        | some c => u8 1 ++ u8 (portCode c.port) ++ u8 c.items.length
            ++ u8 (c.items.filter (fun i => i.outcome.isSome)).length)

/-! ### Streams (R211) -/

def originByte : ReplyOrigin → Byte
  | .tag _ => 0#8
  | .round n => BitVec.ofNat 8 (n.val + 1)

def tagByte : ReplyOrigin → Byte
  | .tag t => t
  | .round _ => 0#8

/-- The reply stream of a record: kind, origin, tag, status, body length, body. -/
def replyStream (r : Reply) : List Byte :=
  u8 r.kind.code ++ [originByte r.origin, tagByte r.origin] ++ u8 r.status.code ++ u8 r.body.length ++ r.body

/-- The fix stream: 0x01 and the fix body. -/
def fixStream (f : Fix) (overrun : Nat) : List Byte := 0x01#8 :: fixBody f overrun

/-- The first `n` bytes of a stream; 0x00 for each byte clocked after its end. -/
def clockedBytes (stream : List Byte) (n : Nat) : List Byte :=
  stream.take n ++ List.replicate (n - stream.length) 0x00#8

end Sys2Proof.Machine
end

