-- ==== Sys2Proof/Machine/Operands.lean ====
section
/-! DEFINITION. The fields of a request frame: reading its body bytes, codes and masks (R210, section 12.2). -/

namespace Sys2Proof.Machine

/-- The byte at an offset of the body. -/
def byteAt (b : List Byte) (k : Nat) : Nat := (b.getD k 0#8).toNat

/-- A 2-byte number, most significant byte first. -/
def word16At (b : List Byte) (k : Nat) : Nat := 256 * byteAt b k + byteAt b (k + 1)

/-- A 4-byte number, most significant byte first. -/
def word32At (b : List Byte) (k : Nat) : Nat :=
  16777216 * byteAt b k + 65536 * byteAt b (k + 1) + 256 * byteAt b (k + 2) + byteAt b (k + 3)

/-! ### Codes. An undefined code gives none, and the request BAD_VALUE (R210). -/

def roleOf : Nat → Option Role
  | 1 => some .monitor | 2 => some .reference | 3 => some .machine | 4 => some .point | _ => none

def classOf : Nat → Option EntryClass
  | 1 => some .retained | 2 => some .transient | _ => none

def faceAskedOf : Nat → Option FaceAsked
  | 1 => some .i | 2 => some .ii | 3 => some .nearer | _ => none

def levelOf : Nat → Option Level
  | 1 => some .urgent | 2 => some .normal | 3 => some .background | _ => none

def portOf : Nat → Option Port
  | 1 => some .a | 2 => some .b | 3 => some .c | _ => none

def intervalOf : Nat → Option Interval
  | 0 => some .sixteenth | 1 => some .eighth | 2 => some .quarter | 3 => some .half | 4 => some .one | 5 => some .ten
  | 6 => some .sixty | 7 => some .sixHundred | _ => none

def modeOf : Nat → Option AttentionMode
  | 1 => some .level | 2 => some .pulse | _ => none

def yesNoOf : Nat → Option Bool
  | 0 => some false | 1 => some true | _ => none

def roundNoOf (n : Nat) : Option RoundNo := if h : n < 4 then some ⟨n, h⟩ else none

/-- R198: a target ID lies in 1..65,534. -/
def idOf (n : Nat) : Option Nat := if 1 ≤ n ∧ n ≤ 65534 then some n else none

/-- An angle in 0..3,999,999. -/
def angleOf (n : Nat) : Option Int := if n ≤ 3999999 then some (n : Int) else none

def rangeOf (low high n : Nat) : Option Nat := if low ≤ n ∧ n ≤ high then some n else none

/-! ### Bodies -/

/-- The writable fields a write supplies (R24). -/
structure WriteFields where
  id : Nat
  role : Role
  cls : EntryClass
  pinned : Bool
  rounds : Mask 4
  window : Nat
  tolerance : Nat
  retryLimit : Nat
  direction : Option Direction
deriving DecidableEq, Repr

/-- The optional direction part of a write: present in the 19-byte body, with α and ζ in range (R24). -/
def directionPartOf (b : List Byte) : Option (Option Direction) :=
  if b.length = 19 then do
    let azimuth ← angleOf (word32At b 11)
    let zenith ← rangeOf 250000 1750000 (word32At b 15)
    some (some { azimuth := azimuth, zenith := (zenith : Int) })
  else some none

/-- R24: the fields of a write, each in its range; none is BAD_VALUE. -/
def writeFieldsOf (b : List Byte) : Option WriteFields := do
  let id ← idOf (word16At b 0)
  let role ← roleOf (byteAt b 2)
  let cls ← classOf (byteAt b 3)
  let pinned ← yesNoOf (byteAt b 4)
  let rounds ← rangeOf 0 15 (byteAt b 5)
  let window ← rangeOf 1500 12000 (word16At b 6)
  let tolerance ← rangeOf 1 50000 (word16At b 8)
  let retryLimit ← rangeOf 0 7 (byteAt b 10)
  let direction ← directionPartOf b
  some { id := id, role := role, cls := cls, pinned := pinned, rounds := BitVec.ofNat 4 rounds, window := window,
         tolerance := tolerance, retryLimit := retryLimit, direction := direction }

/-- An optional level in the byte after a body's fixed part: present when the body is long enough (section 12.2). -/
def optionalLevelOf (b : List Byte) (k : Nat) : Option (Option Level) :=
  if k < b.length then (levelOf (byteAt b k)).map some else some none

/-- What AIM and AIM_DIRECTION ask for. -/
structure AimFields where
  target : AimTarget
  face : FaceAsked
  learn : Bool
  range : Bool
  level : Option Level
deriving DecidableEq, Repr

/-- R66 check 2: the fields of an AIM body. -/
def aimFieldsOf (b : List Byte) : Option AimFields := do
  let id ← idOf (word16At b 0)
  let face ← faceAskedOf (byteAt b 2)
  let options ← rangeOf 0 3 (byteAt b 3)
  let level ← optionalLevelOf b 4
  some { target := .entry id, face := face, learn := options % 2 = 1, range := 2 ≤ options, level := level }

/-- R67: the fields of an AIM_DIRECTION body; the learn option (bit 0) is not accepted (log entry 10). -/
def aimDirectionFieldsOf (b : List Byte) : Option AimFields := do
  let h ← angleOf (word32At b 0)
  let v ← angleOf (word32At b 4)
  let window ← rangeOf 1500 12000 (word16At b 8)
  let retryLimit ← rangeOf 0 7 (byteAt b 10)
  let face ← faceAskedOf (byteAt b 11)
  let options ← rangeOf 0 3 (byteAt b 12)
  let level ← optionalLevelOf b 13
  if options % 2 = 1 then none
  else some { target := .direct { h := h, v := v } window retryLimit, face := face, learn := false,
              range := options = 2, level := level }

/-- R175, R176: a match; the bytes its range does not use are ignored (R210). -/
def matchOf (range day hour minute second : Nat) : Option RoundMatch :=
  match range with
  | 0 => some .never
  | 1 => do let s ← rangeOf 0 59 second; some (.second s)
  | 2 => do let m ← rangeOf 0 59 minute; let s ← rangeOf 0 59 second; some (.minute m s)
  | 3 => do
    let h ← rangeOf 0 23 hour; let m ← rangeOf 0 59 minute; let s ← rangeOf 0 59 second
    some (.hour h m s)
  | 4 => do
    let w ← rangeOf 0 6 day; let h ← rangeOf 0 23 hour; let m ← rangeOf 0 59 minute; let s ← rangeOf 0 59 second
    some (.weekday w h m s)
  | 5 => do
    let d ← rangeOf 1 31 day; let h ← rangeOf 0 23 hour; let m ← rangeOf 0 59 minute; let s ← rangeOf 0 59 second
    some (.day d h m s)
  | _ => none

/-- What SET_ROUND supplies (R176). -/
structure RoundFields where
  round : RoundNo
  matching : RoundMatch
  reportPort : Port
  level : Level
  range : Bool
deriving DecidableEq, Repr

/-- R176 check 2. -/
def roundFieldsOf (b : List Byte) : Option RoundFields := do
  let round ← roundNoOf (byteAt b 0)
  let matching ← matchOf (byteAt b 1) (byteAt b 2) (byteAt b 3) (byteAt b 4) (byteAt b 5)
  let reportPort ← portOf (byteAt b 6)
  let level ← levelOf (byteAt b 7)
  let range ← yesNoOf (byteAt b 8)
  some { round := round, matching := matching, reportPort := reportPort, level := level, range := range }

/-- R206: a value given is clamped into its range; 65,535 is the mark *unchanged*. -/
def settingOf (b : List Byte) (k low high held : Nat) : Nat :=
  if word16At b k = 65535 then held else min high (max low (word16At b k))

/-- R206: the idle rest time in two parts: 0 stays 0, and 1..9 becomes 10. -/
def idleRestOf (b : List Byte) (k held : Nat) : Nat :=
  if word16At b k = 0 then 0 else settingOf b k 10 3600 held

/-- R206: the ten parameters as SET_CONFIG leaves them. -/
def settingsOf (b : List Byte) (c : Settings) : Settings :=
  { retryDelay := settingOf b 0 500 10000 c.retryDelay,
    settleDelay := settingOf b 2 100 2000 c.settleDelay,
    idleRest := idleRestOf b 4 c.idleRest,
    holdLimit := settingOf b 6 10 3600 c.holdLimit,
    tiltGuard := settingOf b 8 5 200 c.tiltGuard,
    lockTolerance := settingOf b 10 1 50 c.lockTolerance,
    minStrength := settingOf b 12 1 255 c.minStrength,
    separationGuard := settingOf b 14 100 2000 c.separationGuard,
    coastTime := settingOf b 16 500 10000 c.coastTime,
    adoptLimit := settingOf b 18 0 200 c.adoptLimit }

end Sys2Proof.Machine
end

