-- ==== Sys2Proof/Machine/Flags.lean ====
section
/-! DEFINITION. Sets kept as masks: notices (R202), permission groups (R204), wake causes (R191), rounds (R30); and the
attention line (R203). -/

namespace Sys2Proof.Machine

/-- Membership of a choice in a mask. -/
def hasBit {n : Nat} (m : Mask n) (k : Nat) : Bool := m.getLsbD k

/-- A set with one choice added. -/
def withBit {n : Nat} (m : Mask n) (k : Nat) : Mask n := m ||| (BitVec.ofNat n (2 ^ k))

/-- The notice kinds in the order of the notice mask (section 12.2). -/
inductive Notice where
  | partReset | orientationSuspect | orientationSet | driveFault | outOfLevel | roundStarted | roundEnded | resting
  | woke | clockUnset
deriving DecidableEq, Repr

def Notice.bit : Notice → Nat
  | .partReset => 0 | .orientationSuspect => 1 | .orientationSet => 2 | .driveFault => 3 | .outOfLevel => 4
  | .roundStarted => 5 | .roundEnded => 6 | .resting => 7 | .woke => 8 | .clockUnset => 9

/-- The permission groups in the order of the group mask (R204). -/
inductive Group where
  | tableRead | tableWrite | aim | track | station | clock | round | part
deriving DecidableEq, Repr

def Group.bit : Group → Nat
  | .tableRead => 0 | .tableWrite => 1 | .aim => 2 | .track => 3 | .station => 4 | .clock => 5 | .round => 6 | .part => 7

/-- What a request kind needs (R204). -/
inductive Gate where
  | group (g : Group)
  | always
  | setup
deriving DecidableEq, Repr

/-- R198 step 2: the port may send the request. Port A holds every group at all times (R204). -/
def permitted (p : Port) (permissions : Mask 8) : Gate → Bool
  | .group g => p = .a || hasBit permissions g.bit
  | .always => true
  | .setup => p = .a

/-- The wake causes of R191. -/
inductive WakeCause where
  | queue | track | check | round | request | line
deriving DecidableEq, Repr

def WakeCause.bit : WakeCause → Nat
  | .queue => 0 | .track => 1 | .check => 2 | .round => 3 | .request => 4 | .line => 5

/-- The set that holds LINE alone (R193). -/
def lineAlone : Mask 6 := 0b100000#6

/-- R30: an entry whose rounds field is `rounds` is a member of round `n`. -/
def memberOf (rounds : Mask 4) (n : RoundNo) : Bool := hasBit rounds n.val

/-! ### The attention line (R203) -/

/-- Under LEVEL: a record, a notice or a fix waits. -/
def attentionCondition (r : PortRecord) : Bool := !r.replies.isEmpty || r.notices != 0#10 || r.fix.isSome

/-- The line is asserted (driven low). -/
def attentionAsserted (r : PortRecord) : Bool :=
  match r.mode with
  | .level => attentionCondition r
  | .pulse => r.pulse.isSome

/-- Under PULSE an event starts or prolongs the pulse: the line returns high 50 µs (32 units) after the latest event. -/
def pulseAt (now : Nat) (r : PortRecord) : PortRecord :=
  match r.mode with
  | .level => r
  | .pulse => { r with pulse := some (now + 32) }

/-- R202: a notice is added when its kind is not present; under PULSE an added notice pulses the line (R203). -/
def addNotice (now : Nat) (k : Notice) (r : PortRecord) : PortRecord :=
  if hasBit r.notices k.bit then r else pulseAt now { r with notices := withBit r.notices k.bit }

/-! ### Levels and saturating counters -/

def Level.rank : Level → Nat
  | .urgent => 2 | .normal => 1 | .background => 0

/-- R68, R205: a level above the ceiling is lowered to the ceiling. -/
def lowerTo (ceiling l : Level) : Level := if ceiling.rank < l.rank then ceiling else l

/-- A saturating counter stops at 255. -/
def saturate (n : Nat) : Nat := min 255 n

end Sys2Proof.Machine
end

