-- ==== Sys2Proof/Machine/Ops.lean ====
section
/-! DEFINITION. The named operations over the records that every block shares: elapsed time, epochs, ports and their
queues, the target table, reservations, aim slots and the quantities computed from them. -/

namespace Sys2Proof.Machine

/-! ### Elapsed time (section 9.1; log entry 1)

One unit is 1/640,000 s: a millisecond is 640 units, a count of the clock 625, 50 µs are 32. -/

def unitsOfMs (ms : Nat) : Nat := 640 * ms

def unitsOfSeconds (seconds : Nat) : Nat := 640000 * seconds

/-- The mark of the next count of the clock. -/
def nextCount (elapsed : Nat) : Nat := (elapsed / 625 + 1) * 625

/-- A deadline arrives when it falls before the next count. -/
def arrives (s : State) (deadline : Nat) : Bool := deadline < nextCount s.elapsed

/-- Elapsed time has reached a deadline. -/
def reach (s : State) (deadline : Nat) : State := { s with elapsed := max s.elapsed deadline }

/-- A span of elapsed time in milliseconds, rounded to nearest (R148). -/
def msOfUnits (units : Nat) : Nat := (roundDiv (units : Int) 640).toNat

/-! ### Epochs -/

/-- The epoch of a clock reading, absent while it is UNSET (section 9.1). -/
def epochOf (c : Clock) : Option Epoch :=
  if c.valid then
    some { year := c.year, month := c.month, day := c.day, hour := c.hour, minute := c.minute, second := c.second,
           sub := c.sub }
  else none

/-! ### Ports -/

def atPort {α : Type} (m : PerPort α) : Port → α
  | .a => m.a | .b => m.b | .c => m.c

def putPort {α : Type} (m : PerPort α) (p : Port) (x : α) : PerPort α :=
  match p with
  | .a => { m with a := x }
  | .b => { m with b := x }
  | .c => { m with c := x }

def portRecord (s : State) (p : Port) : PortRecord := atPort s.ports p

def modPort (s : State) (p : Port) (f : PortRecord → PortRecord) : State :=
  { s with ports := putPort s.ports p (f (portRecord s p)) }

/-- R200: a record is placed behind every record already in the reply queue; under PULSE the line pulses (R203). -/
def appendReply (s : State) (p : Port) (r : Reply) : State :=
  modPort s p (fun q => pulseAt s.elapsed { q with replies := q.replies ++ [r] })

/-- R79: the reply queue has room and no completion is held. -/
def hasRoom (s : State) (p : Port) : Bool :=
  (portRecord s p).replies.length < 8 && (portRecord s p).held.isEmpty

/-- R79: a completion joins the end of the port's held list. -/
def hold (s : State) (p : Port) (h : Held) : State := modPort s p (fun q => { q with held := q.held ++ [h] })

/-- R79, R200: a record of the part's own is appended, or joins the held list. -/
def postReply (s : State) (p : Port) (r : Reply) (deferred : Bool) : State :=
  if hasRoom s p then appendReply s p r else hold s p (.record r deferred)

/-- R202: a notice placed in one port's set. -/
def notify (s : State) (p : Port) (k : Notice) : State := modPort s p (addNotice s.elapsed k)

/-- A notice placed in every port's set. -/
def notifyAll (s : State) (k : Notice) : State := notify (notify (notify s .a k) .b k) .c k

/-- What the part clocks out in a transaction (log entry 5). -/
def clockOut (s : State) (p : Port) (bytes : List Byte) : State := modPort s p (fun q => { q with out := bytes })

/-! ### Answers to requests (R198) -/

def doneReply (tag : Byte) (status : Status) (body : List Byte) : Reply :=
  { kind := .done, origin := .tag tag, status := status, body := body }

def refusalReply (tag : Byte) (status : Status) : Reply :=
  { kind := .refusal, origin := .tag tag, status := status, body := [] }

/-- A DONE record with status OK, appended at once. -/
def answer (s : State) (f : Frame) (body : List Byte) : State := appendReply s f.port (doneReply f.tag .ok body)

/-- A REFUSAL record, appended at once. -/
def refuse (s : State) (f : Frame) (status : Status) : State := appendReply s f.port (refusalReply f.tag status)

/-! ### Aim slots -/

def allSlots : List SlotNo := [0, 1, 2, 3, 4, 5, 6, 7, 8, 9, 10, 11, 12, 13, 14, 15]

def slotAt (s : State) (i : SlotNo) : Option Aim := s.slots[i]

def isQueued (a : Aim) : Bool := a.state = .queued

/-- The aim queue holds a QUEUED aim. -/
def anyQueued (slots : Vector (Option Aim) 16) : Bool := allSlots.any (fun i => slots[i].any isQueued)

/-- A slot takes an aim or becomes free; the track controller's item *aims waiting* follows the arbiter's reports
(R64, R75, R146). -/
def putSlot (s : State) (i : SlotNo) (a : Option Aim) : State :=
  let slots := s.slots.set i a
  { s with slots := slots, track := s.track.map (fun t => { t with aimsWaiting := anyQueued slots }) }

/-- The number of slots whose aim meets a test. -/
def countSlots (s : State) (test : Aim → Bool) : Nat := allSlots.countP (fun i => (slotAt s i).any test)

/-- R63: the queue occupancy. -/
def occupancy (s : State) : Nat := countSlots s (fun _ => true)

/-- A free slot (log entry 11: the lowest). -/
def freeSlot? (s : State) : Option SlotNo := allSlots.find? (fun i => (slotAt s i).isNone)

/-- R26: the number of occupied slots whose target is the entry, plus 1 while a track runs on it. A check aim's slot is freed
as the aim completes (R78, R80), so a reference whose own aim has ended can be forgotten or evicted while other items of the
check pend, where R159 says that no reference leaves the table while the check runs (a choice, log entry 28). -/
def useCount (s : State) (id : Nat) : Nat :=
  countSlots s (fun a => a.target = .entry id)
    + (if s.track.any (fun t => t.target = id) then 1 else 0)

/-- R69, R80: the aims of a round that occupy slots. -/
def outstanding (s : State) (n : RoundNo) : Nat := countSlots s (fun a => a.origin = .round n)

def heldDeferred : Held → Bool
  | .aim _ => false
  | .record _ deferred => deferred

/-- R199: the port's deferred requests that have been admitted and whose final record has not been appended. -/
def openCount (s : State) (p : Port) : Nat :=
  countSlots s (fun a => a.origin = .port && a.port = p)
    + (if (atPort s.claims p).wait.isSome then 1 else 0)
    + (portRecord s p).held.countP heldDeferred
    + (if s.track.any (fun t => t.owner = p) then 1 else 0)
    + (if s.station.check.any (fun c => c.counted && c.port = p) then 1 else 0)

/-! ### The target table (chapter 2) -/

def allWays : List (Fin 4) := [0, 1, 2, 3]

/-- R23: the set an ID lives in. -/
def setOf (id : Nat) : Fin 32 := ⟨id % 32, Nat.mod_lt _ (by decide)⟩

def setAt (s : State) (k : Fin 32) : TableSet := s.sets[k]

def putSet (s : State) (k : Fin 32) (t : TableSet) : State := { s with sets := s.sets.set k t }

/-- R23: the way of a set that carries an ID. -/
def findWay (t : TableSet) (id : Nat) : Option (Fin 4) := allWays.find? (fun w => t.ways[w].any (fun e => e.id = id))

/-- R23: the lookup of an ID, with the way that carries it. -/
def locate (s : State) (id : Nat) : Option (Fin 4 × Entry) :=
  (findWay (setAt s (setOf id)) id).bind (fun w => ((setAt s (setOf id)).ways[w]).map (fun e => (w, e)))

/-- R23: the lookup of an ID. -/
def lookup (s : State) (id : Nat) : Option Entry := (locate s id).map (·.2)

/-- R27: a way moves to most recent. -/
def toFront (order : List (Fin 4)) (w : Fin 4) : List (Fin 4) := w :: order.erase w

/-- R27: a way that becomes invalid moves to the tail. -/
def toTail (order : List (Fin 4)) (w : Fin 4) : List (Fin 4) := order.erase w ++ [w]

/-- A way takes an entry and moves to most recent (R28). -/
def storeEntry (s : State) (k : Fin 32) (w : Fin 4) (e : Entry) : State :=
  let t := setAt s k
  putSet s k { ways := t.ways.set w (some e), order := toFront t.order w }

/-- The entry with an ID, where present, is changed and moves to most recent. -/
def updateEntry (s : State) (id : Nat) (f : Entry → Entry) : State :=
  match locate s id with
  | some (w, e) => storeEntry s (setOf id) w (f e)
  | none => s

/-- R28: the entry moves to most recent. -/
def touchEntry (s : State) (id : Nat) : State := updateEntry s id (fun e => e)

/-- R38: the way becomes invalid and moves to the tail. -/
def dropWay (s : State) (k : Fin 32) (w : Fin 4) : State :=
  let t := setAt s k
  putSet s k { ways := t.ways.set w none, order := toTail t.order w }

/-- R23: the entry at a table position. -/
def entryAt (s : State) (position : Nat) : Option Entry :=
  if h : position < 128 then
    (setAt s ⟨position / 4, by omega⟩).ways[(⟨position % 4, by omega⟩ : Fin 4)]
  else none

/-- R46: what a part-wide reset leaves of a set. -/
def resetSet (t : TableSet) : TableSet :=
  { ways := t.ways.map (fun e => e.filter (fun x => x.pinned)),
    order := t.order.filter (fun w => t.ways[w].any (fun e => e.pinned))
      ++ t.order.filter (fun w => t.ways[w].any (fun e => !e.pinned))
      ++ t.order.filter (fun w => t.ways[w].isNone) }

/-! ### Reservations (chapter 3) -/

def claim (s : State) (p : Port) : Claim := atPort s.claims p

def putClaim (s : State) (p : Port) (c : Claim) : State := { s with claims := putPort s.claims p c }

/-- R55: the record of a completed wait. -/
def changeReply (tag : Byte) (id : Nat) (cause : ChangeCause) : Reply :=
  { kind := .change, origin := .tag tag, status := .ok, body := changeBody id cause }

/-- R51: what a modification report for `id` does at one port. -/
def breakClaim (s : State) (p : Port) (id : Nat) (cause : ChangeCause) : State :=
  if (claim s p).reservation = some id then
    match (claim s p).wait with
    | some tag => postReply (putClaim s p { reservation := none, wait := none }) p (changeReply tag id cause) true
    | none => putClaim s p { reservation := none, wait := none }
  else s

/-- R41, R51: a modification report, taken at each port in turn. -/
def reportModification (s : State) (id : Nat) (cause : ChangeCause) : State :=
  breakClaim (breakClaim (breakClaim s .a id cause) .b id cause) .c id cause

/-- R39, R40: an update of an entry from within the part, reported once as OBSERVED. -/
def observeEntry (s : State) (id : Nat) (f : Entry → Entry) : State :=
  match lookup s id with
  | some _ => reportModification (updateEntry s id f) id .observed
  | none => s

end Sys2Proof.Machine
end

