-- ==== Sys2Proof/Machine/Drive.lean ====
section
/-! DEFINITION. The drive unit's operations on its record (chapter 5) and the distance request record (section 6.6). -/

namespace Sys2Proof.Machine

/-- The current raw positions (R88). -/
def currentRaw (s : State) : Pointing := { h := s.encoder.h, v := s.encoder.v }

def atRest (e : Encoder) : Bool := e.restH && e.restV

/-- A move is in flight. -/
def isMoving (s : State) : Bool :=
  match s.drive with
  | .moving _ => true
  | _ => false

def inFault (s : State) : Bool :=
  match s.drive with
  | .fault _ => true
  | _ => false

/-- R89, R94: a move from where the axes stand to its raw targets. -/
def newMove (s : State) (target : Pointing) (commander : Commander) : Move :=
  let allowance := stallAllowance (turn s.encoder.h target.h) (turn s.encoder.v target.v)
  { target := target, commander := some commander, stopping := false, deadline := s.elapsed + unitsOfMs allowance }

/-- R89, R90, R91: a move command starts a move in HOLDING, replaces the move in MOVING, and leaves the record unchanged
elsewhere; the answer NOT_READY is discarded by the commander (R107, R132). -/
def commandMove (s : State) (target : Pointing) (commander : Commander) : State :=
  match s.drive with
  | .holding _ => { s with drive := .moving (newMove s target commander) }
  | .moving _ => { s with drive := .moving (newMove s target commander) }
  | _ => s

/-- R93: a stop. -/
def stopDrive (s : State) : State :=
  match s.drive with
  | .moving m =>
    if m.stopping then s
    else { s with drive := .moving { m with stopping := true, commander := none,
                                            deadline := s.elapsed + unitsOfMs 1500 } }
  | _ => s

/-- R148 step 1, R144: a STOP for a move in flight with commander TRACK. -/
def stopTrackMove (s : State) : State :=
  match s.drive with
  | .moving m => if m.commander = some .track then stopDrive s else s
  | _ => s

/-- R98, rest entry. -/
def driveRest (s : State) : State := { s with drive := .off }

/-- R98, wake. -/
def driveWake (s : State) : State :=
  match s.drive with
  | .off => { s with drive := .settling }
  | _ => s

/-- R98, settle end. -/
def driveSettleEnd (s : State) : State :=
  match s.drive with
  | .settling => { s with drive := .holding (currentRaw s) }
  | _ => s

/-- R98, return to rest from waking. -/
def driveReturnToRest (s : State) : State :=
  match s.drive with
  | .settling => { s with drive := .off }
  | _ => s

/-- R97: CLEAR_FAULT's effect. -/
def driveClearFault (s : State) : State :=
  match s.drive with
  | .fault _ => { s with drive := .holding (currentRaw s) }
  | _ => s

/-- R87: the motor stages are powered. -/
def stagesPowered (s : State) : Bool :=
  match s.drive with
  | .off | .fault _ => false
  | .settling | .holding _ | .moving _ => true

/-- R92: both axes stand within 20 cu of the targets and are at rest. -/
def arrived (e : Encoder) (target : Pointing) : Bool :=
  (dev e.h target.h).natAbs ≤ 20 && (dev e.v target.v).natAbs ≤ 20 && atRest e

/-- R95: an axis has been pushed more than 2,000 cu from the held position. -/
def displaced (e : Encoder) (held : Pointing) : Bool :=
  2000 < (dev e.h held.h).natAbs || 2000 < (dev e.v held.v).natAbs

/-! ### The distance request record -/

/-- R118, R143: a measurement request is sent; its 4,000 ms run from its sending. -/
def sendDistanceRequest (s : State) (requester : Commander) : State :=
  { s with distance := some { requester := requester, abandoned := false, expiry := s.elapsed + unitsOfMs 4000,
                              number := s.requests },
           requests := s.requests + 1 }

/-- R127, R128, R144, R148: a request in flight with this requester becomes abandoned. -/
def abandonRequest (s : State) (requester : Commander) : State :=
  { s with distance := s.distance.map (fun d => if d.requester = requester then { d with abandoned := true } else d) }

end Sys2Proof.Machine
end

