-- ==== Sys2Proof/Machine/Power.lean ====
section
/-! DEFINITION. The power controller's operations (chapter 10). -/

namespace Sys2Proof.Machine

def isRunning (s : State) : Bool :=
  match s.power with
  | .run _ => true
  | _ => false

/-- R187: the lock sensor and the distance unit are on. -/
def sensorsOn (s : State) : Bool :=
  match s.power with
  | .rest => false
  | .waking _ _ | .run _ => true

/-- R153, R187: the compensator's sampling period in milliseconds. -/
def compensatorPeriodMs (s : State) : Nat :=
  match s.power with
  | .rest => 10000
  | .waking _ _ | .run _ => 50

/-- R188: the part is idle. -/
def isIdle (s : State) : Bool :=
  isRunning s && occupancy s = 0 && s.track.isNone && s.rounds.all (fun r => r.state != .running)

/-- R188: the idle deadline from this moment, absent with an idle rest time of 0. -/
def idleDeadlineFrom (s : State) : Option Nat :=
  if s.settings.idleRest = 0 then none else some (s.elapsed + unitsOfSeconds s.settings.idleRest)

/-- R188: the part stops being idle. -/
def leaveIdle (s : State) : State :=
  match s.power with
  | .run _ => { s with power := .run none }
  | _ => s

/-- R188: the idle deadline is present while the part is idle, and absent otherwise. -/
def idleTest (s : State) : State :=
  match s.power with
  | .run none => if isIdle s then { s with power := .run (idleDeadlineFrom s) } else s
  | .run (some _) => if isIdle s then s else { s with power := .run none }
  | _ => s

/-- R191: causes that restart a present idle deadline in RUN. -/
def restartsIdle : WakeCause → Bool
  | .request | .line => true
  | .queue | .track | .check | .round => false

/-- R191: a wake cause, taken by the power state. -/
def takeWakeCause (s : State) (cause : WakeCause) : State :=
  match s.power with
  | .rest =>
    driveWake { s with power := .waking (s.elapsed + unitsOfMs s.settings.settleDelay) (withBit 0#6 cause.bit) }
  | .waking deadline causes => { s with power := .waking deadline (withBit causes cause.bit) }
  | .run none => s
  | .run (some _) => if restartsIdle cause then { s with power := .run (idleDeadlineFrom s) } else s

/-- R190 steps 1 to 4: rest entry but for the notice. The compensator's rate is computed from the power state. -/
def enterRest (s : State) : State := driveRest { s with power := .rest, distance := none }

end Sys2Proof.Machine
end

