-- ==== Sys2Proof/Machine/Track.lean ====
section
/-! DEFINITION. The track controller (chapter 7): endings, acquiring, following, searching, suspension, ticks. -/

namespace Sys2Proof.Machine

/-- The record of a track's ending (R148). -/
def trackEndReply (t : Track) (cause : Status) (now : Nat) : Reply :=
  { kind := .trackEnd, origin := .tag t.tag, status := cause,
    body := trackEndBody t.lastFix (msOfUnits (now - t.acceptedAt)) t.overrunTotal }

/-- R148 steps 1, 2, 4 and 6: the axes, the request, the grant and the record. The use count falls with the record
(step 3, R26). -/
def releaseTrack (s : State) : State :=
  let s := abandonRequest (stopTrackMove s) .track
  { s with grant := { s.grant with track := .absent }, track := none }

/-- R148: the track ends; a cause without a record (PORT_RESET, RESET) is none. The dispatch choice follows the event
(R75; log entry 7). -/
def endTrack (s : State) (cause : Option Status) : State :=
  match s.track with
  | none => s
  | some t =>
    match cause with
    | none => releaseTrack s
    | some c => postReply (releaseTrack s) t.owner (trackEndReply t c s.elapsed) true

/-- The grant's track is HOLDING. -/
def trackHolds (s : State) : Bool :=
  match s.grant.track with
  | .holding _ => true
  | _ => false

/-- R140, R96: what ends a track only while it holds the axes. -/
def endHoldingTrack (s : State) (cause : Status) : State := if trackHolds s then endTrack s (some cause) else s

/-- R146: the hold limit, tested when the deadline arrives and when aims waiting becomes yes. -/
def holdTest (s : State) : State :=
  if s.track.any (fun t => t.holdPassed && t.aimsWaiting) then endHoldingTrack s .holdExpired else s

/-! ### Acquiring and searching -/

/-- R135 after the choice: a solution with face NEARER and a move to its raw targets. -/
def trackAcquire (s : State) (t : Track) : State :=
  match lookup s t.target with
  | none => endTrack s (some .lost)
  | some e =>
    match solveEntry s.station.state s.station.omega s.station.latest (currentRaw s) e.azimuth e.zenith .nearer with
    | .error _ => endTrack s (some .outOfLevel)
    | .ok sol =>
      commandMove { s with track := some { t with state := .acquiring, solution := some sol,
                                                  acquirePhase := some .turning } } sol.raw .track

/-- R135: the chosen track start takes the axes. -/
def takeAxes (s : State) : State :=
  match s.track with
  | none => { s with grant := { s.grant with track := .absent } }
  | some t =>
    let t := { t with holdDeadline := some (s.elapsed + unitsOfSeconds s.settings.holdLimit), holdPassed := false }
    trackAcquire { s with grant := { s.grant with track := .holding false }, track := some t } t

/-- R136, R139: the search goes to the first position at or after a cursor that lies inside the band; with none left the
track ends LOST. -/
def trackSeek (s : State) (t : Track) (centre : Pointing) (zenith : Int) (c : Cursor) : State :=
  match seekPosition centre zenith maxPositions c with
  | some (c', target) => commandMove { s with track := some { t with cursor := some c' } } target .track
  | none => endTrack s (some .lost)

/-- The window of the track's entry, read as a search begins. -/
def trackWindow (s : State) (t : Track) : Nat :=
  match lookup s t.target with
  | some e => e.window
  | none => 1500

/-- The centre of the track's search: the solution in ACQUIRING, the anchor in SEARCHING (R136, R139). -/
def trackCentre (t : Track) : Option (Pointing × Int) :=
  match t.state with
  | .acquiring => t.solution.map (fun sol => (sol.raw, sol.target.v))
  | _ => t.anchor.map (fun a => (a.raw, a.zenith))

/-- The rings begin at the track's centre. -/
def trackRings (s : State) (t : Track) : State :=
  match trackCentre t with
  | some (centre, zenith) => trackSeek s t centre zenith (.start (trackWindow s t))
  | none => s

/-- R139: after the centre look the rings begin at the cursor set on entering SEARCHING. -/
def trackFromCursor (s : State) (t : Track) : State :=
  match trackCentre t, t.cursor with
  | some (centre, zenith), some c => trackSeek s t centre zenith c
  | _, _ => s

/-- An empty or ambiguous frame at a ring position (R136, R139). -/
def trackAdvance (s : State) (t : Track) : State :=
  match trackCentre t, t.cursor with
  | some (centre, zenith), some c =>
    match nextCursor c with
    | some c' => trackSeek s t centre zenith c'
    | none => endTrack s (some .lost)
  | _, _ => s

/-- R138 and R139: SEARCHING about the anchor without a look at the centre. -/
def trackSearch (s : State) (t : Track) : State :=
  let t := { t with state := .searching, coastDeadline := none, centreLook := false }
  trackRings { s with track := some t } t

/-! ### Following -/

/-- R137: a selected sighting in TRACKING. -/
def trackFollow (s : State) (t : Track) (g : Sighting) : State :=
  match tiltOf s.station.latest with
  | none => endTrack s (some .outOfLevel)
  | some tilt =>
    let o : Offset := { x := g.x, y := g.y }
    let readings := observedReadings (currentRaw s) tilt o
    let seen : LastSeen :=
      { readings := readings, direction := observedDirection s.station.state s.station.omega readings, residual := o,
        orientation := s.station.state }
    let fine := fineTargets (currentRaw s) tilt o
    let t := { t with state := .tracking, solution := none, acquirePhase := none, cursor := none, centreLook := false,
                      coastDeadline := none, lastSeen := some seen, anchor := some { raw := fine.1, zenith := fine.2 } }
    commandMove { s with track := some t } fine.1 .track

/-- R138: TRACKING becomes COASTING. -/
def trackCoast (s : State) (t : Track) : State :=
  { s with track := some { t with state := .coasting,
                                  coastDeadline := some (s.elapsed + unitsOfMs s.settings.coastTime) } }

/-- The sighting a selection gives the track; an ambiguous frame is none (R136). -/
def trackSighting : Selection → Option Sighting
  | .selected g => some g
  | .empty | .ambiguous _ => none

/-- A frame judged at a place of the track's search: it selects, or `otherwise`. -/
def trackJudge (s : State) (t : Track) (sel : Selection) (otherwise : State) : State :=
  match trackSighting sel with
  | some g => trackFollow s t g
  | none => otherwise

/-- R132, R136 to R139: a lock sensor frame, by the track's state. A frame during a search's move is discarded. -/
def trackFrame (s : State) (t : Track) (sel : Selection) : State :=
  match t.state with
  | .acquiring =>
    match t.acquirePhase with
    | some .sensing =>
      let t' := { t with acquirePhase := some .searching, centreLook := false }
      trackJudge s t sel (trackRings { s with track := some t' } t')
    | some .searching => if isMoving s then s else trackJudge s t sel (trackAdvance s t)
    | some .turning | none => s
  | .tracking => trackJudge s t sel (trackCoast s t)
  | .coasting => trackJudge s t sel s
  | .searching =>
    if isMoving s then s
    else if t.centreLook then
      let t' := { t with centreLook := false }
      trackJudge s t sel (trackFromCursor { s with track := some t' } t')
    else trackJudge s t sel (trackAdvance s t)
  | .suspended => s

/-- R136: the arrival of the track's move; in the other states arrivals change nothing. -/
def trackArrival (s : State) : State :=
  { s with track := s.track.map (fun t =>
      if t.state = .acquiring && t.acquirePhase = some .turning then { t with acquirePhase := some .sensing } else t) }

/-! ### Stepping aside -/

/-- R73, R144: the arbiter suspends the track. -/
def suspendTrack (s : State) : State :=
  let s := abandonRequest (stopTrackMove s) .track
  { s with grant := { s.grant with track := .holding true },
           track := s.track.map (fun t => { t with state := .suspended, coastDeadline := none, cursor := none,
                                                   centreLook := false, solution := none, acquirePhase := none }) }

/-- R74, R145: the arbiter resumes the track. -/
def resumeTrack (s : State) : State :=
  let s := { s with grant := { s.grant with track := .holding false } }
  match s.track with
  | none => { s with grant := { s.grant with track := .absent } }
  | some t =>
    match t.anchor with
    | none => trackAcquire s t
    | some a =>
      let t := { t with state := .searching, centreLook := true, cursor := some (.start (trackWindow s t)) }
      commandMove { s with track := some t } a.raw .track

/-! ### Ticks and fixes -/

/-- R173: the boundaries of an interval. -/
def onBoundary (c : Clock) : Interval → Bool
  | .sixteenth => c.sub % 64 = 0
  | .eighth => c.sub % 128 = 0
  | .quarter => c.sub % 256 = 0
  | .half => c.sub % 512 = 0
  | .one => c.sub = 0
  | .ten => c.sub = 0 && c.second % 10 = 0
  | .sixty => c.sub = 0 && c.second = 0
  | .sixHundred => c.sub = 0 && c.second = 0 && c.minute % 10 = 0

/-- R141: fixes are written in TRACKING and COASTING. -/
def fixStateOf : TrackState → Option FixState
  | .tracking => some .tracking
  | .coasting => some .coasting
  | .acquiring | .searching | .suspended => none

def fixStatus : FixState → Status
  | .tracking => .tracking
  | .coasting => .coasting

/-- R40: the last observation a fix update carries. -/
def fixObservation (x : Fix) : LastObservation :=
  { epoch := x.epoch, readings := some x.readings, direction := x.direction, distance := x.distance,
    status := fixStatus x.state, flags := noFlags }

/-- R142: a fix written to a port's latest-fix slot; a filled slot raises the overrun count. -/
def writeFix (now : Nat) (x : Fix) (q : PortRecord) : PortRecord :=
  pulseAt now { q with fix := some x, overrun := if q.fix.isSome then saturate (q.overrun + 1) else q.overrun }

/-- R141, R142: a fix: the record, the fix update of the entry, then the owner's slot. -/
def formFix (s : State) (t : Track) (x : Fix) : State :=
  let overruns := if (portRecord s t.owner).fix.isSome then saturate (t.overrunTotal + 1) else t.overrunTotal
  let s := { s with track := some { t with lastFix := some x, latestDistance := none, overrunTotal := overruns } }
  let s := observeEntry s t.target (fun e => { e with lastObs := some (fixObservation x) })
  modPort s t.owner (writeFix s.elapsed x)

/-- R143: the request of a tick taken in TRACKING. -/
def trackDistanceRequest (s : State) (t : Track) (st : FixState) : State :=
  if t.range && st = .tracking && s.distance.isNone then sendDistanceRequest s .track else s

/-- R141, R143: a tick of the track's interval at the clock reading `c`. -/
def tickTrack (s : State) (t : Track) (c : Clock) : State :=
  match fixStateOf t.state, t.lastSeen with
  | some st, some seen =>
    let x : Fix := { epoch := epochOf c, state := st, readings := seen.readings, direction := seen.direction,
                     residual := seen.residual, distance := t.latestDistance }
    trackDistanceRequest (formFix s t x) t st
  | _, _ => s

end Sys2Proof.Machine
end

