-- ==== Sys2Proof/Machine/Queue.lean ====
section
/-! DEFINITION. The aim queue: entering QUEUED, placing an aim, the order of candidates (chapter 4). -/

namespace Sys2Proof.Machine

/-- R65: `a` arrived before `b`. -/
def earlier (a b : BitVec 32) : Bool := 1 ≤ (b - a).toNat && (b - a).toNat ≤ 2147483647

/-- R64, R65, R191, R188, R146: an aim enters QUEUED in a slot. It takes the arrival sequence counter's value, the power
controller is told of a QUEUE cause, and the track controller of the waiting aim. -/
def enterQueued (s : State) (i : SlotNo) (a : Aim) : State :=
  let s := putSlot s i (some { a with state := .queued, sequence := s.sequence })
  let s := { s with sequence := s.sequence + 1#32 }
  holdTest (leaveIdle (takeWakeCause s .queue))

/-- R63, R66, R69: an aim is placed in a free slot. Callers have tested that one is free. -/
def placeAim (s : State) (a : Aim) : State :=
  match freeSlot? s with
  | some i => enterQueued s i a
  | none => s

/-- R69: the fields of a round aim or a check aim. -/
def partAim (p : Port) (origin : Origin) (id : Nat) (range : Bool) (level : Level) : Aim :=
  { tag := none, port := p, origin := origin, target := .entry id, face := .nearer, learn := false, range := range,
    level := level, attempts := 0, sequence := 0#32, state := .queued, lastStatus := none, lastObservation := none }

/-- R80: a slot is freed. The counts that R80 names are computed from the slots (log entry 19). -/
def freeSlot (s : State) (i : SlotNo) : State := putSlot s i none

/-- A QUEUED aim of level URGENT. -/
def queuedUrgent (a : Aim) : Bool := isQueued a && a.level = .urgent

/-- R71: one candidate comes before another: higher level, then earlier arrival. -/
def before (l : Level) (n : BitVec 32) (l' : Level) (n' : BitVec 32) : Bool :=
  l'.rank < l.rank || (l.rank = l'.rank && earlier n n')

/-- R71: the better of the candidate so far and a slot's aim. -/
def betterSlot (s : State) (best : Option (SlotNo × Aim)) (i : SlotNo) : Option (SlotNo × Aim) :=
  match slotAt s i with
  | none => best
  | some a =>
    if isQueued a then
      match best with
      | none => some (i, a)
      | some (j, b) => if before a.level a.sequence b.level b.sequence then some (i, a) else some (j, b)
    else best

/-- R71: the QUEUED aim of highest level and, among equal levels, of earliest sequence. -/
def bestQueued (s : State) : Option (SlotNo × Aim) := allSlots.foldl (betterSlot s) none

/-- R72, R76: the retry limit of an aim's target, from the entry at this moment or from the slot. -/
def retryLimitOf (s : State) : AimTarget → Nat
  | .entry id => match lookup s id with
    | some e => e.retryLimit
    | none => 0
  | .direct _ _ limit => limit

end Sys2Proof.Machine
end

