-- ==== Sys2Proof/Machine/Rounds.lean ====
section
/-! DEFINITION. The site clock and the round scheduler (chapter 9). -/

namespace Sys2Proof.Machine

/-! ### The calendar -/

/-- R168: the length of a month in a two-digit year. -/
def monthLength (year month : Nat) : Nat :=
  if month = 2 then (if year % 4 = 0 then 29 else 28)
  else if month = 4 || month = 6 || month = 9 || month = 11 then 30 else 31

/-- R168, R169: the carry into year; a carry out of year 99 makes the clock UNSET. -/
def carryYear (c : Clock) : Clock :=
  if c.year < 99 then { c with year := c.year + 1 } else { c with year := 0, valid := false }

def carryMonth (c : Clock) : Clock :=
  if c.month < 12 then { c with month := c.month + 1 } else carryYear { c with month := 1 }

def carryDay (c : Clock) : Clock :=
  if c.day < monthLength c.year c.month then { c with day := c.day + 1 } else carryMonth { c with day := 1 }

/-- R168: the carry out of the hour is midnight, where the weekday rises. -/
def carryHour (c : Clock) : Clock :=
  if c.hour < 23 then { c with hour := c.hour + 1 }
  else carryDay { c with hour := 0, weekday := if c.weekday < 6 then c.weekday + 1 else 0 }

def carryMinute (c : Clock) : Clock :=
  if c.minute < 59 then { c with minute := c.minute + 1 } else carryHour { c with minute := 0 }

def carrySecond (c : Clock) : Clock :=
  if c.second < 59 then { c with second := c.second + 1 } else carryMinute { c with second := 0 }

/-- R168: one count. -/
def countClock (c : Clock) : Clock :=
  if c.sub < 1023 then { c with sub := c.sub + 1 } else carrySecond { c with sub := 0 }

/-- R171: the nearest whole minute. -/
def alignClock (c : Clock) : Clock :=
  if c.second < 30 then { c with second := 0, sub := 0 } else carryMinute { c with second := 0, sub := 0 }

/-- R169: the carry out of year 99: the year falls back to 0. -/
def yearWrapped (before after : Clock) : Bool := after.year < before.year

/-- The clock takes a new reading by counting or aligning; R169's notice at a carry out of year 99. -/
def setClock (s : State) (c : Clock) : State :=
  let s' := { s with clock := c }
  if yearWrapped s.clock c then notifyAll s' .clockUnset else s'

/-- R175: a match against the fields of a second boundary. -/
def matchesAt (c : Clock) : RoundMatch → Bool
  | .never => false
  | .second s => c.second = s
  | .minute m s => c.minute = m && c.second = s
  | .hour h m s => c.hour = h && c.minute = m && c.second = s
  | .weekday w h m s => c.weekday = w && c.hour = h && c.minute = m && c.second = s
  | .day d h m s => c.day = d && c.hour = h && c.minute = m && c.second = s

/-! ### Round records -/

def roundAt (s : State) (n : RoundNo) : Round := s.rounds[n]

def putRound (s : State) (n : RoundNo) (r : Round) : State := { s with rounds := s.rounds.set n r }

/-- A round that the recorded second boundary no longer concerns: it has been tested there (R175), or it was armed after
the count (R177; log entry 2). -/
def passBoundary (s : State) (n : RoundNo) : State := { s with untested := s.untested.filter (fun m => m != n) }

/-- R181: a round aim's final status is counted. -/
def countFinal (s : State) (n : RoundNo) (status : Status) : State :=
  let r := roundAt s n
  if status = .locked || status = .lockedNoRange then putRound s n { r with locked := saturate (r.locked + 1) }
  else putRound s n { r with failed := saturate (r.failed + 1) }

/-- R184: members or aims of the round counted skipped. -/
def countSkipped (s : State) (n : RoundNo) (k : Nat) : State :=
  let r := roundAt s n
  putRound s n { r with skipped := saturate (r.skipped + k) }

/-! ### Feeding and ending -/

/-- A table position holds a valid entry that is a member of the round. -/
def memberAt (s : State) (n : RoundNo) (q : Nat) : Bool := (entryAt s q).any (fun e => memberOf e.rounds n)

/-- R180: the feeding conditions, with a cursor below 128. -/
def mayFeed (s : State) (n : RoundNo) : Bool :=
  let r := roundAt s n
  r.state = .running && !r.stopping && r.cursor < 128 && outstanding s n < 4 && occupancy s ≤ 12

/-- R180: the first member at or after a cursor, toward position 127. -/
def nextMember (s : State) (n : RoundNo) (cursor : Nat) : Option Nat :=
  (List.range' cursor (128 - cursor)).find? (memberAt s n)

/-- R180: a feeding step. -/
def feedStep (s : State) (n : RoundNo) : State :=
  let r := roundAt s n
  match nextMember s n r.cursor with
  | none => putRound s n { r with cursor := 128 }
  | some q =>
    match entryAt s q with
    | none => putRound s n { r with cursor := q + 1 }
    | some e =>
      placeAim (putRound s n { r with cursor := q + 1 }) (partAim r.reportPort (.round n) e.id r.range r.level)

/-- R180: steps follow one another while the conditions hold. At most four aims are placed and one step passes 127. -/
@[irreducible] def feedRound : Nat → State → RoundNo → State
  | 0, s, _ => s
  | fuel + 1, s, n => if mayFeed s n then feedRound fuel (feedStep s n) n else s

def isSummaryOf (n : RoundNo) : Held → Bool
  | .record r _ => r.kind = .roundSummary && r.origin = .round n
  | .aim _ => false

/-- R182 steps 3 and 4: the summary, replacing an older one of the same round in the held list. -/
def postSummary (s : State) (n : RoundNo) (r : Round) : State :=
  let summary : Reply :=
    { kind := .roundSummary, origin := .round n, status := .ok, body := summaryBody r (epochOf s.clock) }
  let s := modPort s r.reportPort (fun q => { q with held := q.held.filter (fun h => !isSummaryOf n h) })
  postReply s r.reportPort summary false

/-- R182: the run has ended when its cursor is 128 and none of its aims is outstanding. -/
def runOver (s : State) (n : RoundNo) : Bool :=
  (roundAt s n).state = .running && (roundAt s n).cursor = 128 && outstanding s n = 0

/-- R182: the end of a run. -/
def endRun (s : State) (n : RoundNo) : State :=
  let r := roundAt s n
  let s := putRound s n { r with state := if r.stopping then .disarmed else .armed, stopping := false }
  postSummary (notify s r.reportPort .roundEnded) n r

/-- R180, R182: one round is fed and its end tested. -/
@[irreducible] def serveRound (s : State) (n : RoundNo) : State :=
  let s := feedRound 5 s n
  if runOver s n then endRun s n else s

/-- R180: the rounds are served in round-number order. -/
@[irreducible] def serveRounds (s : State) : State := serveRound (serveRound (serveRound (serveRound s 0) 1) 2) 3

/-- R179: an ARMED round fires at the second boundary `c`; feeding follows (`serveRounds`). -/
def startRun (s : State) (n : RoundNo) (c : Clock) : State :=
  let r := roundAt s n
  let s := putRound s n { r with state := .running, stopping := false, cursor := 0, locked := 0, failed := 0,
                                 skipped := 0, missed := 0, started := epochOf c }
  leaveIdle (takeWakeCause (notify s r.reportPort .roundStarted) .round)

/-- R184: an aim of the round that a DISARM_ROUND removes. -/
def removable (n : RoundNo) (a : Aim) : Bool :=
  a.origin = .round n && (match a.state with
    | .queued | .retryWait _ => true
    | .active | .doneHeld _ => false)

/-- The slots whose aim meets a test are freed (R80). -/
def freeSlots (s : State) (test : Aim → Bool) : State :=
  allSlots.foldl (fun s i => if (slotAt s i).any test then freeSlot s i else s) s

/-- R184: a running round starts stopping. -/
def stopRun (s : State) (n : RoundNo) : State :=
  let r := roundAt s n
  let ahead := (List.range' r.cursor (128 - r.cursor)).countP (memberAt s n)
  let aims := countSlots s (removable n)
  let s := putRound s n { r with stopping := true, cursor := 128, skipped := saturate (r.skipped + ahead + aims) }
  freeSlots s (removable n)

end Sys2Proof.Machine
end

