-- ==== Sys2Proof/Machine/Station.lean ====
section
/-! DEFINITION. The station monitor (chapter 8): tilt samples, check items and conclusions. -/

namespace Sys2Proof.Machine

def isOverRange : Option TiltSample → Bool
  | some .overRange => true
  | _ => false

/-- R155: a sample disturbs the station against a reference tilt. A SET station holds one (R152). -/
def disturbs (guard : Nat) (reference : Option Tilt) : TiltSample → Bool
  | .overRange => true
  | .values l t => reference.any (fun r => (guard : Int) < (l - r.l).natAbs || (guard : Int) < (t - r.t).natAbs)

/-- R154: the level notice. -/
def levelNotice (s : State) (previous : Option TiltSample) (sample : TiltSample) : State :=
  if sample = .overRange && !isOverRange previous then notifyAll s .outOfLevel else s

/-- R155: the disturbance test. -/
def disturbanceTest (s : State) (sample : TiltSample) : State :=
  if s.station.state = .set && disturbs s.settings.tiltGuard s.station.reference sample then
    notifyAll { s with station := { s.station with state := .suspect } } .orientationSuspect
  else s

/-- R153 steps 1 to 3. -/
def takeTilt (s : State) (sample : TiltSample) : State :=
  let previous := s.station.latest
  let s := { s with station := { s.station with latest := some sample } }
  disturbanceTest (levelNotice s previous sample) sample

/-! ### Checks -/

/-- R160: the item of an entry takes its outcome and, for LOCKED, the deviation from the entry as it stands. -/
def settleItem (id : Nat) (status : Status) (observed : Option Int) (entry : Option Entry) (i : CheckItem) : CheckItem :=
  if i.id = id then
    { i with outcome := some status,
             deviation := if status = .locked then
                 match observed, entry with
                 | some az, some e => some (dev az e.azimuth, e.tolerance)
                 | _, _ => none
               else none }
  else i

def deviationsOf (items : List CheckItem) : List Int := items.filterMap (fun i => i.deviation.map (·.1))

def withinTolerance (i : CheckItem) : Bool := i.deviation.all (fun d => d.1.natAbs ≤ d.2)

/-- R161: the result of a check. -/
def checkResult (s : State) (c : Check) : Status :=
  let ds := deviationsOf c.items
  if ds.isEmpty then .incomplete
  else if (tiltOf s.station.latest).isNone then .incomplete
  else if c.items.all withinTolerance then .confirmed
  else if c.adopt && 2 ≤ ds.length && spread ds ≤ s.settings.adoptLimit then .adopted
  else .rejected

/-- R162: the result changes the station record. -/
def applyCheck (s : State) (c : Check) (result : Status) : State :=
  let st := s.station
  match result with
  | .confirmed =>
    notifyAll { s with station := { st with state := .set, reference := tiltOf st.latest, check := none } } .orientationSet
  | .adopted =>
    notifyAll { s with station := { st with omega := reduce (st.omega - adoptionMean (deviationsOf c.items)),
                                            state := .set, reference := tiltOf st.latest, check := none } }
      .orientationSet
  | .rejected =>
    let s' := { s with station := { st with state := .suspect, check := none } }
    if st.state = .set then notifyAll s' .orientationSuspect else s'
  | _ => { s with station := { st with check := none } }

/-- R161 to R163: a check concludes. -/
def concludeCheck (s : State) (c : Check) : State :=
  let result := checkResult s c
  let s' := applyCheck s c result
  postReply s' c.port
    { kind := .checkResult, origin := .tag c.tag, status := result,
      body := checkResultBody c.items s.station.omega s'.station.omega s'.station.state } c.counted

/-- R160: a check aim completes; at a pending count of 0 the check concludes. -/
def checkAimCompletes (s : State) (id : Nat) (status : Status) (observed : Option Int) : State :=
  match s.station.check with
  | none => s
  | some c =>
    let c := { c with items := c.items.map (settleItem id status observed (lookup s id)) }
    let s := { s with station := { s.station with check := some c } }
    if c.items.all (fun i => i.outcome.isSome) then concludeCheck s c else s

/-- R158: the references of a check: the valid REFERENCE entries in table order, up to the first eight. -/
def referencesOf (s : State) : List Nat :=
  ((List.range 128).filterMap (fun q => (entryAt s q).bind (fun e => if e.role = .reference then some e.id else none))).take 8

end Sys2Proof.Machine
end

