-- ==== Sys2Proof/Machine/Arbiter.lean ====
section
/-! DEFINITION. The axis arbiter (chapter 4) and the endings of an attempt (sections 6.7 to 6.9): observations,
completion, retry, dispatch, and what follows from an event inside its step. -/

namespace Sys2Proof.Machine

/-! ### The observation of an attempt -/

def isSuccess (st : Status) : Bool := st = .locked || st = .lockedNoRange

def isRetryable (st : Status) : Bool := st = .notFound || st = .obstructed

/-- R122: the DRIFT test against the entry as it stands. -/
def drifts (e : Entry) (d : Direction) : Bool :=
  e.tolerance < (dev d.azimuth e.azimuth).natAbs || e.tolerance < (d.zenith - e.zenith).natAbs

/-- R123: the conditions for learning. -/
def mayLearn (s : State) (k : LockResult) : Bool :=
  k.orientation = .set && s.station.state = .set && s.station.omega = k.omega

/-- The entry an aim is aimed at, where its target is one. -/
def targetEntry (s : State) : AimTarget → Option Entry
  | .entry id => lookup s id
  | .direct _ _ _ => none

/-- R123: the attempt ends with the learn option in force. -/
def learnAsked (a : Aim) (status : Status) : Bool := a.learn && isSuccess status

/-- The flags of R121, R122 and R123. -/
def observationFlags (s : State) (a : Aim) (status : Status) (lock : Option LockResult) : ObsFlags :=
  { drift := match targetEntry s a.target, lock.bind (·.direction) with
      | some e, some d => drifts e d
      | _, _ => false,
    suspect := lock.any (fun k => k.orientation = .suspect),
    learned := learnAsked a status && lock.any (mayLearn s),
    learnSkipped := learnAsked a status && !lock.any (mayLearn s) }

/-- R121: the residual: the locking offsets after lock, the last sighting's offsets on AMBIGUOUS and UNSTEADY. -/
def residualOf (t : Attempt) (status : Status) : Option Offset :=
  match t.lock with
  | some k => some k.residual
  | none =>
    if status = .ambiguous || status = .unsteady then t.lastSighting.map (fun g => { x := g.x, y := g.y }) else none

/-- R121: the observation record of an attempt that reached sensing. -/
def observationOf (s : State) (t : Attempt) (a : Aim) (status : Status) (distance : Option Nat) : Observation :=
  { target := a.target, attempt := a.attempts, status := status,
    epoch := match t.lock with
      | some k => k.epoch
      | none => epochOf s.clock,
    sight := t.lock.map (fun k => (k.face, k.readings)),
    direction := t.lock.bind (·.direction),
    tilt := match t.lock with
      | some k => some k.tilt
      | none => tiltOf s.station.latest,
    residual := residualOf t status, distance := distance, flags := observationFlags s a status t.lock }

/-- R124: the last observation an update carries. -/
def lastObservationOf (o : Observation) : LastObservation :=
  { epoch := o.epoch, readings := o.sight.map (·.2), direction := o.direction, distance := o.distance,
    status := o.status, flags := o.flags }

/-- R25, R39, R124: the observation update of an entry. -/
def applyObservation (o : Observation) (e : Entry) : Entry :=
  let e := { e with lastObs := some (lastObservationOf o),
                    missCount := if isSuccess o.status then 0 else saturate (e.missCount + 1) }
  match o.flags.learned, o.direction with
  | true, some d => { e with azimuth := d.azimuth, zenith := clampStoredZenith d.zenith, source := .learned }
  | _, _ => e

/-- R124: the update is handed to the table where the target is an entry. -/
def handObservation (s : State) (target : AimTarget) (o : Observation) : State :=
  match target with
  | .entry id => observeEntry s id (applyObservation o)
  | .direct _ _ _ => s

/-! ### Completion -/

/-- R78: the completion record. -/
def completionReply (a : Aim) (status : Status) : Reply :=
  { kind := .observation,
    origin := match a.origin with
      | .round n => .round n
      | _ => .tag (a.tag.getD 0#8),
    status := status, body := observationBody a.target a.attempts a.lastObservation }

/-- R81, R82: the record of a cancelled aim. -/
def cancelledReply (a : Aim) : Reply :=
  { kind := .observation, origin := .tag (a.tag.getD 0#8), status := .cancelled,
    body := observationBody a.target a.attempts none }

/-- R78, R79: the record is appended and the slot freed, or the aim enters DONE_HELD. -/
def deliver (s : State) (i : SlotNo) (a : Aim) (status : Status) : State :=
  let r := completionReply a status
  if hasRoom s a.port then freeSlot (appendReply s a.port r) i
  else hold (putSlot s i (some { a with state := .doneHeld r })) a.port (.aim i)

/-- R160: the observed azimuth a LOCKED check aim hands over. -/
def observedAzimuth (a : Aim) : Option Int := (a.lastObservation.bind (·.direction)).map (·.azimuth)

/-- The entry ID of a target; check aims have one (R69). -/
def targetId : AimTarget → Nat
  | .entry id => id
  | .direct _ _ _ => 0

/-- R78: an aim completes with a final status. -/
def complete (s : State) (i : SlotNo) (a : Aim) (status : Status) : State :=
  match a.origin with
  | .port => deliver s i a status
  | .round n => deliver (countFinal s n status) i a status
  | .check => freeSlot (checkAimCompletes s (targetId a.target) status (observedAzimuth a)) i

/-- The grant's active aim becomes absent. -/
def releaseAim (s : State) : State := { s with grant := { s.grant with active := none } }

/-- R184: a retryable ending of an aim of a stopping round removes the aim. -/
def stoppingRound (s : State) (a : Aim) : Option RoundNo :=
  match a.origin with
  | .round n => if (roundAt s n).state = .running && (roundAt s n).stopping then some n else none
  | _ => none

/-- R76: the course of an aim after an attempt's ending. -/
def decideCourse (s : State) (i : SlotNo) (a : Aim) (status : Status) : State :=
  let s := releaseAim s
  if isRetryable status && a.attempts < retryLimitOf s a.target + 1 then
    match stoppingRound s a with
    | some n => freeSlot (countSkipped s n 1) i
    | none =>
      putSlot s i (some { a with state := .retryWait (s.elapsed + unitsOfMs s.settings.retryDelay),
                                 lastStatus := some status })
  else complete s i a status

/-- R125: the ending of the attempt: the update, then the empty attempt record, then the arbiter. -/
def endAttempt (s : State) (status : Status) (distance : Option Nat) : State :=
  match s.attempt with
  | none => s
  | some t =>
    match slotAt s t.slot with
    | none => { releaseAim s with attempt := none }
    | some a =>
      if t.reachedSensing then
        let o := observationOf s t a status distance
        let s := handObservation s a.target o
        decideCourse { s with attempt := none } t.slot { a with lastObservation := some o } status
      else decideCourse { s with attempt := none } t.slot a status

/-- R127: the attempt is abandoned; the drive is stopped. -/
def abandonAttempt (s : State) : State :=
  { releaseAim (abandonRequest (stopDrive s) .acquisition) with attempt := none }

/-! ### Dispatch -/

/-- R72 checks 2 to 4: the solution for an aim, or the refusal of R6 that ends the attempt. -/
def solveAim (s : State) (a : Aim) : Except Status Solution :=
  match a.target with
  | .entry id =>
    match lookup s id with
    | some e =>
      solveEntry s.station.state s.station.omega s.station.latest (currentRaw s) e.azimuth e.zenith a.face
    | none => .error .noSuchTarget
  | .direct p _ _ => solveDirect s.station.latest (currentRaw s) p a.face

/-- R103: an attempt begins. -/
def beginAttempt (s : State) (i : SlotNo) (sol : Solution) : State :=
  commandMove { s with attempt := some { slot := i, phase := .turning, solution := sol, reachedSensing := false,
                                         cursor := none, corrections := 0, empties := 0, lastSighting := none,
                                         lock := none } } sol.raw .acquisition

/-- R28: dispatch moves an entry target to most recent. -/
def touchTarget (s : State) : AimTarget → State
  | .entry id => touchEntry s id
  | .direct _ _ _ => s

/-- R72: an aim is dispatched. -/
def dispatch (s : State) (i : SlotNo) (a : Aim) : State :=
  let b := { a with state := .active, attempts := a.attempts + 1 }
  let s := putSlot { s with grant := { s.grant with active := some i } } i (some b)
  let s := touchTarget s b.target
  if retryLimitOf s b.target + 1 < b.attempts then
    complete (releaseAim s) i { b with attempts := a.attempts } (a.lastStatus.getD .notFound)
  else match solveAim s b with
    | .error st => complete (releaseAim s) i b st
    | .ok sol => beginAttempt s i sol

/-! ### What follows from an event -/

/-- R71: the power state is RUN and the drive is not in FAULT. -/
def mayChoose (s : State) : Bool := isRunning s && !inFault s

/-- R71, R73, R74: the arbiter's next act, absent when there is none. -/
@[irreducible] def arbitrate (s : State) : Option State :=
  if s.grant.active.isSome then none
  else match s.grant.track with
    | .holding false => if (bestQueued s).any (fun c => c.2.level = .urgent) then some (suspendTrack s) else none
    | .holding true =>
      match bestQueued s with
      | some (i, a) =>
        if a.level = .urgent then (if mayChoose s then some (dispatch s i a) else none) else some (resumeTrack s)
      | none => some (resumeTrack s)
    | .waiting n =>
      if mayChoose s then
        match bestQueued s with
        | some (i, a) => if before .normal n a.level a.sequence then some (takeAxes s) else some (dispatch s i a)
        | none => some (takeAxes s)
      else none
    | .absent => if mayChoose s then (bestQueued s).map (fun c => dispatch s c.1 c.2) else none

/-- After an event: the rounds are served, then the arbiter acts, again until it has nothing to do; then the idleness
test of R188 (log entry 6). -/
def followOn : Nat → State → State
  | 0, s => idleTest s
  | fuel + 1, s =>
    match arbitrate (serveRounds s) with
    | some s' => followOn fuel s'
    | none => idleTest (serveRounds s)

/-- More turns than one event can call for (log entry 17). -/
def followTurns : Nat := 4096

/-- What follows from an event inside its step. -/
@[irreducible] def afterEvent (s : State) : State := followOn followTurns s

/-! ### Faults of the drive -/

/-- R96, R128: entry into FAULT. -/
def enterFault (s : State) (cause : FaultCause) : State :=
  let s := notifyAll { s with drive := .fault cause } .driveFault
  let s := endAttempt (abandonRequest s .acquisition) .driveFault none
  afterEvent (endHoldingTrack s .driveFault)

end Sys2Proof.Machine
end

