-- ==== Sys2Proof/Machine/Acquisition.lean ====
section
/-! DEFINITION. The acquisition controller (chapter 6): sensing, search, fine centring, ranging. -/

namespace Sys2Proof.Machine

def setAttempt (s : State) (t : Attempt) : State := { s with attempt := some t }

/-- An attempt ends with a status and without a distance. -/
def finishAttempt (s : State) (t : Attempt) (status : Status) : State := endAttempt (setAttempt s t) status none

/-- The last sighting holds clamped offsets (section 6.1; log entry 13). -/
def clampSighting (g : Sighting) : Sighting := { g with x := clampOffset g.x, y := clampOffset g.y }

/-- R109: the window of an aim's target, from the entry or from the slot. -/
def windowOf (s : State) : AimTarget → Nat
  | .entry id => match lookup s id with
    | some e => e.window
    | none => 1500
  | .direct _ window _ => window

/-- The aim of an attempt asks for something. -/
def attemptAim (s : State) (t : Attempt) : Option Aim := slotAt s t.slot

/-! ### The search -/

/-- R111, R112: the search goes to the first position at or after a cursor that lies inside the band; with none left the
attempt ends NOT_FOUND. -/
def attemptSeek (s : State) (t : Attempt) (c : Cursor) : State :=
  match seekPosition t.solution.raw t.solution.target.v maxPositions c with
  | some (c', target) => commandMove (setAttempt s { t with cursor := some c' }) target .acquisition
  | none => finishAttempt s { t with cursor := none } .notFound

/-- R108, R109: an empty frame in SENSING begins a search. -/
def beginSearch (s : State) (t : Attempt) : State :=
  let window := match attemptAim s t with
    | some a => windowOf s a.target
    | none => 1500
  attemptSeek s { t with phase := .searching } (.start window)

/-- R112: an empty frame at a search position. -/
def advanceSearch (s : State) (t : Attempt) : State :=
  match t.cursor.bind nextCursor with
  | some c => attemptSeek s t c
  | none => finishAttempt s { t with cursor := none } .notFound

/-! ### Fine centring -/

/-- R117: the lock result of a locking sighting. -/
def lockResultOf (s : State) (tilt : Tilt) (g : Sighting) : LockResult :=
  let o : Offset := { x := g.x, y := g.y }
  let readings := observedReadings (currentRaw s) tilt o
  { face := faceOf readings.v, readings := readings,
    direction := observedDirection s.station.state s.station.omega readings, residual := o, tilt := tilt,
    orientation := s.station.state, omega := s.station.omega, epoch := epochOf s.clock }

/-- R118: on entering RANGING, and whenever the record becomes FREE, a waiting attempt sends its request. -/
def sendWaiting (s : State) : State :=
  if s.distance.isNone && s.attempt.any (fun t => t.phase = .ranging) then sendDistanceRequest s .acquisition else s

/-- R117: the prism is locked. -/
def lockPrism (s : State) (t : Attempt) (g : Sighting) : State :=
  match tiltOf s.station.latest with
  | none => finishAttempt s t .outOfLevel
  | some tilt =>
    let t := { t with lock := some (lockResultOf s tilt g) }
    if (attemptAim s t).any (fun a => a.range) then
      sendWaiting (setAttempt s { t with phase := .ranging, corrections := 0, empties := 0 })
    else finishAttempt s t .locked

/-- R114: a correction. -/
def correct (s : State) (t : Attempt) (g : Sighting) : State :=
  if 4 ≤ t.corrections then finishAttempt s t .unsteady
  else match tiltOf s.station.latest with
    | none => finishAttempt s t .outOfLevel
    | some tilt =>
      commandMove (setAttempt s { t with corrections := t.corrections + 1 })
        (fineTargets (currentRaw s) tilt { x := g.x, y := g.y }).1 .acquisition

/-- R113: a selected sighting in FINE is tested against the lock tolerance. -/
def testSighting (s : State) (t : Attempt) (g : Sighting) : State :=
  let t := { t with lastSighting := some g }
  if g.x.natAbs ≤ s.settings.lockTolerance && g.y.natAbs ≤ s.settings.lockTolerance then lockPrism s t g
  else correct s t g

/-- R113: the attempt enters FINE with a selected sighting. -/
def enterFine (s : State) (t : Attempt) (g : Sighting) : State :=
  testSighting s { t with phase := .fine, cursor := none, corrections := 0, empties := 0 } g

/-- R108, R112, R113: an ambiguous frame ends the attempt with the nearest sighting kept. -/
def endAmbiguous (s : State) (t : Attempt) (g : Sighting) : State :=
  finishAttempt s { t with lastSighting := some g, cursor := none } .ambiguous

/-- R115: an empty frame in FINE. -/
def emptyInFine (s : State) (t : Attempt) : State :=
  let t := { t with empties := t.empties + 1 }
  if 2 ≤ t.empties then finishAttempt s t .obstructed else setAttempt s t

/-! ### Frames -/

/-- R104: whether a frame is judged, by the phase and the move in flight. -/
def judgesFrame (s : State) (t : Attempt) : Bool :=
  match t.phase with
  | .turning | .ranging => false
  | .sensing | .searching | .fine => !isMoving s

/-- R108, R112, R113, R115: a judged frame. -/
def judgeFrame (s : State) (t : Attempt) (sel : Selection) : State :=
  match sel with
  | .ambiguous g => endAmbiguous s t (clampSighting g)
  | .selected g =>
    if t.phase = .fine then testSighting s { t with empties := 0 } (clampSighting g) else enterFine s t (clampSighting g)
  | .empty =>
    match t.phase with
    | .sensing => beginSearch s t
    | .searching => advanceSearch s t
    | .fine => emptyInFine s t
    | .turning | .ranging => s

/-- R107: the arrival of a move commanded by the acquisition controller. -/
def attemptArrival (s : State) : State :=
  { s with attempt := s.attempt.map (fun t =>
      if t.phase = .turning then { t with phase := .sensing, reachedSensing := true } else t) }

/-- R116: an over-range sample in FINE. -/
def attemptTilt (s : State) (sample : TiltSample) : State :=
  if sample = .overRange && s.attempt.any (fun t => t.phase = .fine) then endAttempt (stopDrive s) .outOfLevel none
  else s

/-! ### Ranging -/

/-- R119: the ending an answer gives the attempt in RANGING. -/
def rangeEnding : DistanceAnswer → Status × Option Nat
  | .distance d => if 10 ≤ d ∧ d ≤ 30000000 then (.locked, some d) else (.lockedNoRange, none)
  | .noReturn => (.lockedNoRange, none)
  | .interrupted => (.obstructed, none)

/-- R119: an answer to the request of the attempt in RANGING. -/
def attemptAnswer (s : State) (a : DistanceAnswer) : State :=
  if s.attempt.any (fun t => t.phase = .ranging) then endAttempt s (rangeEnding a).1 (rangeEnding a).2 else s

/-- R143: an answer to the track's request. -/
def trackAnswer (s : State) (a : DistanceAnswer) : State :=
  match a with
  | .distance d =>
    if 10 ≤ d ∧ d ≤ 30000000 then { s with track := s.track.map (fun t => { t with latestDistance := some d }) } else s
  | .noReturn | .interrupted => s

/-- R119, R120, R143: the answer to the request in flight. -/
def takeAnswer (s : State) (d : DistanceRequest) (a : DistanceAnswer) : State :=
  let s := { s with distance := none }
  let s := if d.abandoned then s else match d.requester with
    | .acquisition => attemptAnswer s a
    | .track => trackAnswer s a
  afterEvent (sendWaiting s)

/-- R120: the expiry of the request in flight. -/
def takeExpiry (s : State) (d : DistanceRequest) : State :=
  let s := { reach s d.expiry with distance := none }
  let s := if d.abandoned then s else match d.requester with
    | .acquisition => if s.attempt.any (fun t => t.phase = .ranging) then endAttempt s .lockedNoRange none else s
    | .track => s
  afterEvent (sendWaiting s)

end Sys2Proof.Machine
end

