-- ==== Sys2Proof/Machine/Ports.lean ====
section
/-! DEFINITION. The request transaction (R197) and the order in which a taken request is answered (R198). -/

namespace Sys2Proof.Machine

/-- What R197 and R204 lay down for a kind: its permission gate, the body lengths permitted for it (none for a kind
the part does not define: every length up to 60), and whether it is a deferred request. -/
structure RequestKind where
  gate : Gate
  lengths : Option (List Nat)
  deferred : Bool
deriving DecidableEq, Repr

/-- A kind that is answered at once. -/
def immediate (gate : Gate) (lengths : List Nat) : RequestKind :=
  { gate := gate, lengths := some lengths, deferred := false }

/-- A deferred request (R198). -/
def deferredKind (gate : Gate) (lengths : List Nat) : RequestKind :=
  { gate := gate, lengths := some lengths, deferred := true }

/-- R197 case 1: a body length that makes a frame BAD_FRAME. -/
def badLength (k : RequestKind) (n : Nat) : Bool := 60 < n || k.lengths.any (fun ls => !ls.contains n)

/-- R197, cases 1, 3, 4 and 5. -/
def transactionStatus (s : State) (f : Frame) (k : RequestKind) : TransactionStatus :=
  if badLength k f.body.length then .badFrame
  else if 8 ≤ (portRecord s f.port).replies.length then .portFull
  else if k.deferred && 6 ≤ openCount s f.port then .portFull
  else .accepted

/-- R209: 0x00 for the kind, the tag, the body length and each body byte, then the transaction status. What is
clocked out for bytes that the master clocks after the status is not stated, and the model keeps none (log entry 26). -/
def frameOut (f : Frame) (st : TransactionStatus) : List Byte :=
  List.replicate (3 + f.body.length) 0x00#8 ++ [st.byte]

/-- R198 step 2, then the request itself: its value checks, its own checks and its effect. -/
def answerRequest (s : State) (f : Frame) (k : RequestKind) (act : State → State) : State :=
  if permitted f.port (portRecord s f.port).permissions k.gate then act s else refuse s f .notPermitted

/-- A request transaction (R197): a frame that is not complete, or that is answered BAD_FRAME or PORT_FULL, is
discarded. -/
def request (s : State) (f : Frame) (k : RequestKind) (act : State → State) : Host.Outcome State Fault Refusal :=
  if f.complete then
    match transactionStatus s f k with
    | .accepted => .next (answerRequest (clockOut s f.port (frameOut f .accepted)) f k act)
    | st => .next (clockOut s f.port (frameOut f st))
  else .next s

/-- A request that always takes its fields from a body; none of them is BAD_VALUE (R198 step 3). -/
def withFields {α : Type} (s : State) (f : Frame) (fields : Option α) (act : α → State) : State :=
  match fields with
  | some x => act x
  | none => refuse s f .badValue

end Sys2Proof.Machine
end

