-- ==== Sys2Proof/Machine/AimRequests.lean ====
section
/-! DEFINITION. AIM, AIM_DIRECTION, CANCEL_AIM and WAKE (chapters 4 and 10). -/

namespace Sys2Proof.Machine

/-- An aim of a port's own, by tag. -/
def ownAim (p : Port) (tag : Byte) (a : Aim) : Bool := a.origin = .port && a.port = p && a.tag = some tag

/-- R66 check 3: the tag is carried by an occupied slot of the port. -/
def tagInUse (s : State) (f : Frame) : Bool := 0 < countSlots s (ownAim f.port f.tag)

/-- R68: the level of a port aim. -/
def levelOfAim (s : State) (p : Port) (asked : Option Level) : Level :=
  lowerTo (portRecord s p).ceiling (asked.getD (portRecord s p).defaultLevel)

/-- R66, R67: the fields of an admitted aim. -/
def admittedAim (s : State) (f : Frame) (x : AimFields) : Aim :=
  { tag := some f.tag, port := f.port, origin := .port, target := x.target, face := x.face, learn := x.learn,
    range := x.range, level := levelOfAim s f.port x.level, attempts := 0, sequence := 0#32, state := .queued,
    lastStatus := none, lastObservation := none }

/-- R66 check 6, then admission. -/
def enterAim (s : State) (f : Frame) (x : AimFields) : State :=
  if (freeSlot? s).isSome then afterEvent (placeAim s (admittedAim s f x)) else refuse s f .queueFull

/-- R66 checks 4 and 5: the entry of a table target and the orientation state. -/
def targetStatus (s : State) : AimTarget → Option Status
  | .entry id =>
    if (lookup s id).isNone then some .noSuchTarget
    else if s.station.state = .unset then some .noOrientation else none
  | .direct _ _ _ => none

/-- R66 checks 3 to 6. -/
def requestAim (s : State) (f : Frame) (x : AimFields) : State :=
  if tagInUse s f then refuse s f .busy
  else match targetStatus s x.target with
    | some st => refuse s f st
    | none => enterAim s f x

/-- AIM (R66). -/
def execAim (f : Frame) (s : State) : Host.Outcome State Fault Refusal :=
  request s f (deferredKind (.group .aim) [4, 5]) (fun s => withFields s f (aimFieldsOf f.body) (requestAim s f))

/-- AIM_DIRECTION (R67): no lookup and no orientation check apply to a direct pointing. -/
def execAimDirection (f : Frame) (s : State) : Host.Outcome State Fault Refusal :=
  request s f (deferredKind (.group .aim) [13, 14]) (fun s =>
    withFields s f (aimDirectionFieldsOf f.body) (requestAim s f))

/-- R81: the port's aim that a tag names. -/
def aimNamed (s : State) (p : Port) (tag : Byte) : Option (SlotNo × Aim) :=
  (allSlots.find? (fun i => (slotAt s i).any (ownAim p tag))).bind (fun i => (slotAt s i).map (fun a => (i, a)))

/-- R81, R82: an aim that is cancelled: the record, then the slot. -/
def removeCancelled (s : State) (f : Frame) (i : SlotNo) (a : Aim) : State :=
  afterEvent (freeSlot (appendReply s f.port (cancelledReply a)) i)

/-- R81, R82. R131 has a cancel taken after a range answer answered NO_SUCH_WORK, citing R83, which speaks of completion. An
INTERRUPTED answer can leave the aim in RETRY_WAIT instead, and R81 removes such an aim with a CANCELLED record: there the
model follows R81 (a choice between the two rules, log entry 25). -/
def cancelAim (s : State) (f : Frame) : State :=
  match aimNamed s f.port f.tag with
  | none => refuse s f .noSuchWork
  | some (i, a) =>
    match a.state with
    | .doneHeld _ => refuse s f .noSuchWork
    | .queued => removeCancelled s f i a
    | .retryWait _ => removeCancelled s f i a
    | .active => removeCancelled (abandonAttempt s) f i a

/-- CANCEL_AIM (R81, R82). -/
def execCancelAim (f : Frame) (s : State) : Host.Outcome State Fault Refusal :=
  request s f (immediate (.group .aim) [0]) (fun s => cancelAim s f)

/-- R192: the REQUEST cause, then the record with the power state after the request. -/
def wake (s : State) (f : Frame) : State :=
  let s := takeWakeCause s .request
  answer s f (u8 s.power.code)

/-- WAKE (R192). -/
def execWake (f : Frame) (s : State) : Host.Outcome State Fault Refusal :=
  request s f (immediate (.group .aim) [0]) (fun s => wake s f)

end Sys2Proof.Machine
end

