-- ==== Sys2Proof/Machine/ClockRequests.lean ====
section
/-! DEFINITION. SET_TIME, ALIGN_MINUTE and READ_TIME (section 9.2). -/

namespace Sys2Proof.Machine

/-- R170 checks 2 and 3: the clock as SET_TIME sets it. -/
def timeOf (b : List Byte) : Option Clock := do
  let year ← rangeOf 0 99 (byteAt b 0)
  let month ← rangeOf 1 12 (byteAt b 1)
  let day ← rangeOf 1 (monthLength year month) (byteAt b 2)
  let weekday ← rangeOf 0 6 (byteAt b 3)
  let hour ← rangeOf 0 23 (byteAt b 4)
  let minute ← rangeOf 0 59 (byteAt b 5)
  let second ← rangeOf 0 59 (byteAt b 6)
  some { year := year, month := month, day := day, weekday := weekday, hour := hour, minute := minute,
         second := second, sub := 0, valid := true }

/-- R170: the clock as set, and the validity before (log entry 9). -/
def setTime (s : State) (f : Frame) (c : Clock) : State :=
  answer { s with clock := c } f (clockBody c ++ yesNo s.clock.valid)

/-- SET_TIME (R170). -/
def execSetTime (f : Frame) (s : State) : Host.Outcome State Fault Refusal :=
  request s f (immediate (.group .clock) [7]) (fun s => withFields s f (timeOf f.body) (setTime s f))

/-- R171. -/
def alignMinute (s : State) (f : Frame) : State :=
  if s.clock.valid then
    let s := setClock s (alignClock s.clock)
    answer s f (clockBody s.clock)
  else refuse s f .clockUnset

/-- ALIGN_MINUTE (R171). -/
def execAlignMinute (f : Frame) (s : State) : Host.Outcome State Fault Refusal :=
  request s f (immediate (.group .clock) [0]) (fun s => alignMinute s f)

/-- READ_TIME (R172). -/
def execReadTime (f : Frame) (s : State) : Host.Outcome State Fault Refusal :=
  request s f (immediate .always [0]) (fun s => answer s f (clockBody s.clock))

end Sys2Proof.Machine
end

