-- ==== Sys2Proof/Machine/Transactions.lean ====
section
/-! DEFINITION. REPLY_READ, FIX_READ, IGNORED_TRANSACTION, UNKNOWN_REQUEST, READ_STATUS, SET_ATTENTION_MODE and
PORT_RESET (chapters 11 and 12). -/

namespace Sys2Proof.Machine

/-! ### Reading replies and fixes -/

/-- R79, R80: a DONE_HELD aim's record is appended and its slot freed. -/
def appendHeldAim (s : State) (p : Port) (i : SlotNo) (a : Aim) : State :=
  match a.state with
  | .doneHeld r => afterEvent (freeSlot (appendReply s p r) i)
  | _ => s

/-- R79, R80: the oldest member of the held list enters the queue in the freed place; a DONE_HELD aim's slot is freed
and what follows from that comes about. -/
def appendHeld (s : State) (p : Port) : State :=
  match (portRecord s p).held with
  | [] => s
  | h :: rest =>
    let s := modPort s p (fun q => { q with held := rest })
    match h with
    | .record r _ => appendReply s p r
    | .aim i =>
      match slotAt s i with
      | some a => appendHeldAim s p i a
      | none => s

/-- R201: the oldest record leaves the queue. -/
def dropOldest (s : State) (p : Port) : State := modPort s p (fun q => { q with replies := q.replies.tail })

/-- R201, R211: the reply stream; the removal takes place when the last byte of the record has been clocked out. -/
def replyRead (s : State) (p : Port) (clocked : Nat) : State :=
  match (portRecord s p).replies with
  | [] => clockOut s p (clockedBytes [0x00#8] clocked)
  | r :: _ =>
    let s := clockOut s p (clockedBytes (replyStream r) clocked)
    if (replyStream r).length ≤ clocked then appendHeld (dropOldest s p) p else s

/-- REPLY_READ (R201): `clocked` bytes are clocked after the first byte. -/
def execReplyRead (p : Port) (clocked : Nat) (s : State) : Host.Outcome State Fault Refusal := .next (replyRead s p clocked)

/-- R142, R211. -/
def fixRead (s : State) (p : Port) (clocked : Nat) : State :=
  match (portRecord s p).fix with
  | none => clockOut s p (clockedBytes [0x00#8] clocked)
  | some x =>
    let stream := fixStream x (portRecord s p).overrun
    let s := clockOut s p (clockedBytes stream clocked)
    if stream.length ≤ clocked then modPort s p (fun q => { q with fix := none, overrun := 0 }) else s

/-- FIX_READ (R142). -/
def execFixRead (p : Port) (clocked : Nat) (s : State) : Host.Outcome State Fault Refusal := .next (fixRead s p clocked)

/-- IGNORED_TRANSACTION (R209): 0x00 for every byte of it. -/
def execIgnoredTransaction (p : Port) (first : Byte) (bytes : Nat) (s : State) : Host.Outcome State Fault Refusal :=
  if ignoredFirstByte first then .next (clockOut s p (List.replicate bytes 0x00#8)) else .refused .notACommand

/-! ### Requests of the port itself -/

/-- An undefined kind: any body length up to 60, and a refusal ahead of the permission check (R198 step 1). -/
def unknownKindRequest : RequestKind := { gate := .always, lengths := none, deferred := false }

/-- UNKNOWN_REQUEST (R198). -/
def execUnknownRequest (kind : Byte) (f : Frame) (s : State) : Host.Outcome State Fault Refusal :=
  if unknownKind kind then request s f unknownKindRequest (fun s => refuse s f .unknownRequest)
  else .refused .notACommand

/-- An item sent as 0xFF where it is absent. -/
def codeOrAbsent (n : Option Nat) : List Byte :=
  match n with
  | some n => u8 n
  | none => absentBytes 1

def faultCode (d : Drive) : Option Nat :=
  match d with
  | .fault c => some c.code
  | _ => none

/-- Section 12.2: grant value 1 WAITING, 2 HOLDING. -/
def grantCode (g : GrantTrack) : Option Nat :=
  match g with
  | .absent => none
  | .waiting _ => some 1
  | .holding _ => some 2

/-- R202, section 12.4: the status record of 14 bytes. -/
def statusBody (s : State) (p : Port) : List Byte :=
  let q := portRecord s p
  u8 s.power.code ++ u8 s.station.state.code ++ u8 s.drive.code ++ codeOrAbsent (faultCode s.drive)
    ++ u8 (occupancy s) ++ codeOrAbsent (s.track.map (fun t => portCode t.owner))
    ++ codeOrAbsent (s.track.map (fun t => t.state.code)) ++ codeOrAbsent (grantCode s.grant.track)
    ++ yesNo s.clock.valid ++ u8 (openCount s p) ++ u8 q.held.length ++ u8 q.mode.code ++ u16 q.notices.toNat

/-- R202: the record from the state as it stands; the port's notice set is emptied in the same event. -/
def readStatus (s : State) (f : Frame) : State :=
  answer (modPort s f.port (fun q => { q with notices := 0#10 })) f (statusBody s f.port)

/-- READ_STATUS (R202). -/
def execReadStatus (f : Frame) (s : State) : Host.Outcome State Fault Refusal :=
  request s f (immediate .always [0]) (fun s => readStatus s f)

/-- R203: the mode first, with the line released of any pulse; then the record, whose append gives the first pulse. -/
def setAttentionMode (s : State) (f : Frame) (m : AttentionMode) : State :=
  answer (modPort s f.port (fun q => { q with mode := m, pulse := none })) f []

/-- SET_ATTENTION_MODE (R203). -/
def execSetAttentionMode (f : Frame) (s : State) : Host.Outcome State Fault Refusal :=
  request s f (immediate .always [1]) (fun s => withFields s f (modeOf (byteAt f.body 0)) (setAttentionMode s f))

/-! ### PORT_RESET (R207) -/

/-- R207 steps 1 to 3. -/
def clearPort (q : PortRecord) : PortRecord :=
  { q with replies := [], held := [], fix := none, overrun := 0, notices := 0#10, mode := .level, pulse := none }

/-- R86: aims that a PORT_RESET removes: the port's own, and a DONE_HELD round aim bound for the port. -/
def resetRemoves (p : Port) (a : Aim) : Bool :=
  a.port = p && match a.origin, a.state with
    | .port, _ => true
    | .round _, .doneHeld _ => true
    | _, _ => false

/-- R86: the port's aim is ACTIVE. -/
def activeOwn (s : State) (p : Port) : Bool := 0 < countSlots s (fun a => a.origin = .port && a.port = p && a.state = .active)

/-- R207 step 5, R86. -/
def resetAims (s : State) (p : Port) : State :=
  let s := if activeOwn s p then abandonAttempt s else s
  freeSlots s (resetRemoves p)

/-- R207 step 6, R151. -/
def resetTrack (s : State) (p : Port) : State := if s.track.any (fun t => t.owner = p) then endTrack s none else s

/-- R165: the port's check no longer counts toward its open deferred requests. -/
def uncountCheck (s : State) (p : Port) : State :=
  { s with station := { s.station with check := s.station.check.map (fun c => { c with counted := c.counted && c.port != p }) } }

/-- R207 steps 1 to 7. The open deferred count is computed, and comes to 0. -/
def resetPort (s : State) (p : Port) : State :=
  let s := putClaim (modPort s p clearPort) p { reservation := none, wait := none }
  uncountCheck (resetTrack (resetAims s p) p) p

/-- PORT_RESET (R207): ACCEPTED however full the queue (R197 case 2); no record. -/
def execPortReset (f : Frame) (s : State) : Host.Outcome State Fault Refusal :=
  if f.complete then
    if f.body.length = 0 then .next (afterEvent (resetPort (clockOut s f.port (frameOut f .accepted)) f.port))
    else .next (clockOut s f.port (frameOut f .badFrame))
  else .next s

end Sys2Proof.Machine
end

