-- ==== Sys2Proof/Machine/Deadlines.lean ====
section
/-! DEFINITION. What time brings: the clock's count, ticks, firings and deadlines (chapters 4 to 11; log entries 1, 2). -/

namespace Sys2Proof.Machine

/-! ### The clock (R168, R173, R175) -/

/-- R168: a count, with the boundaries it lies on. The shortest interval's boundaries hold those of every other. -/
def countOnce (s : State) : State :=
  let c := countClock s.clock
  let s := setClock { s with elapsed := nextCount s.elapsed } c
  let s := if c.sub % 64 = 0 then { s with tickDue := some c } else s
  if c.sub = 0 then { s with boundary := some c, untested := [0, 1, 2, 3] } else s

/-- CLOCK_COUNT (R168). -/
def execClockCount (s : State) : Host.Outcome State Fault Refusal := .next (countOnce s)

/-- R141, R173: the tick a count raised, taken by the track where it lies on its interval's boundary. -/
def takeTick (s : State) : State :=
  match s.tickDue with
  | none => s
  | some c =>
    let s := { s with tickDue := none }
    match s.track with
    | none => s
    | some t => if onBoundary c t.interval then tickTrack s t c else s

/-- TRACK_TICK (R141). -/
def execTrackTick (s : State) : Host.Outcome State Fault Refusal := .next (takeTick s)

/-- R179: a round whose match the boundary meets fires. -/
def fireRound (s : State) (n : RoundNo) (c : Clock) : State :=
  let r := roundAt s n
  if matchesAt c r.matching then
    match r.state with
    | .disarmed => s
    | .armed => afterEvent (startRun s n c)
    | .running => putRound s n { r with missed := saturate (r.missed + 1) }
  else s

/-- R175: a round is tested once at a second boundary. -/
def testRound (s : State) (n : RoundNo) : State :=
  match s.boundary with
  | none => s
  | some c => if s.untested.contains n then fireRound (passBoundary s n) n c else s

/-- ROUND_FIRE (R179). -/
def execRoundFire (n : RoundNo) (s : State) : Host.Outcome State Fault Refusal := .next (testRound s n)

/-! ### Deadlines of the drive, the distance request, aims and the track -/

/-- R94: a move's deadline. -/
def stallMove (s : State) : State :=
  match s.drive with
  | .moving m => if arrives s m.deadline then enterFault (reach s m.deadline) .stall else s
  | _ => s

/-- STALL_DEADLINE (R94). -/
def execStallDeadline (s : State) : Host.Outcome State Fault Refusal := .next (stallMove s)

/-- R120. -/
def expireRequest (s : State) : State :=
  match s.distance with
  | some d => if arrives s d.expiry then takeExpiry s d else s
  | none => s

/-- DISTANCE_EXPIRY (R120). -/
def execDistanceExpiry (s : State) : Host.Outcome State Fault Refusal := .next (expireRequest s)

/-- R77. -/
def retryAim (s : State) (i : SlotNo) : State :=
  match slotAt s i with
  | some a =>
    match a.state with
    | .retryWait due => if arrives s due then afterEvent (enterQueued (reach s due) i a) else s
    | _ => s
  | none => s

/-- RETRY_DUE (R77). -/
def execRetryDue (i : SlotNo) (s : State) : Host.Outcome State Fault Refusal := .next (retryAim s i)

/-- R138: in COASTING the search follows. -/
def endCoast (s : State) : State :=
  match s.track with
  | some t =>
    match t.state, t.coastDeadline with
    | .coasting, some d => if arrives s d then afterEvent (trackSearch (reach s d) t) else s
    | _, _ => s
  | none => s

/-- COAST_DEADLINE (R138). -/
def execCoastDeadline (s : State) : Host.Outcome State Fault Refusal := .next (endCoast s)

/-- R146: the hold deadline has passed. -/
def passHold (s : State) (t : Track) : State := { s with track := some { t with holdPassed := true } }

/-- R146: the deadline arrives once. -/
def holdOver (s : State) : State :=
  match s.track with
  | some t =>
    match t.holdDeadline with
    | some d => if !t.holdPassed && arrives s d then afterEvent (holdTest (passHold (reach s d) t)) else s
    | none => s
  | none => s

/-- HOLD_DEADLINE (R146). -/
def execHoldDeadline (s : State) : Host.Outcome State Fault Refusal := .next (holdOver s)

/-! ### Deadlines of the power controller and the ports -/

/-- R193: settle end. -/
def settle (s : State) (causes : Mask 6) : State :=
  if causes = lineAlone && !s.wakeLine then driveReturnToRest { s with power := .rest }
  else afterEvent (notifyAll { driveSettleEnd s with power := .run none } .woke)

/-- SETTLE_DEADLINE (R193). -/
def execSettleDeadline (s : State) : Host.Outcome State Fault Refusal :=
  .next (match s.power with
    | .waking d causes => if arrives s d then settle (reach s d) causes else s
    | _ => s)

/-- R188, R190: rest entry at the idle deadline. -/
def restAtDeadline (s : State) (d : Nat) : State :=
  if arrives s d && isIdle s then notifyAll (enterRest (reach s d)) .resting else s

/-- IDLE_DEADLINE (R188). -/
def execIdleDeadline (s : State) : Host.Outcome State Fault Refusal :=
  .next (match s.power with
    | .run (some d) => restAtDeadline s d
    | _ => s)

/-- R203: the line returns high. -/
def endPulse (s : State) (p : Port) : State :=
  match (portRecord s p).pulse with
  | some d => if arrives s d then modPort (reach s d) p (fun q => { q with pulse := none }) else s
  | none => s

/-- ATTENTION_PULSE_END (R203). -/
def execAttentionPulseEnd (p : Port) (s : State) : Host.Outcome State Fault Refusal := .next (endPulse s p)

end Sys2Proof.Machine
end

