-- ==== Sys2Proof/Machine/PartRequests.lean ====
section
/-! DEFINITION. CLEAR_FAULT, REST, SET_PERMISSIONS, SET_PORT_LEVELS and SET_CONFIG (R97, R189, R204 to R206). -/

namespace Sys2Proof.Machine

/-- R97: the effect, then the record; the dispatch choice follows when the drive has left FAULT. -/
def clearFault (s : State) (f : Frame) : State :=
  if inFault s then afterEvent (answer (driveClearFault s) f []) else answer s f []

/-- CLEAR_FAULT (R97). -/
def execClearFault (f : Frame) (s : State) : Host.Outcome State Fault Refusal :=
  request s f (immediate (.group .part) [0]) (fun s => clearFault s f)

/-- R189, R190: the DONE record carries the power state after the request and precedes the notice. -/
def restRequest (s : State) (f : Frame) : State :=
  match s.power with
  | .rest => answer s f (u8 s.power.code)
  | .waking _ _ => refuse s f .busy
  | .run _ =>
    if isIdle s then
      let s := enterRest s
      notifyAll (answer s f (u8 s.power.code)) .resting
    else refuse s f .busy

/-- REST (R189). -/
def execRest (f : Frame) (s : State) : Host.Outcome State Fault Refusal :=
  request s f (immediate (.group .part) [0]) (fun s => restRequest s f)

/-- R204: the port B or C that SET_PERMISSIONS names. -/
def guestOf (n : Nat) : Option Port :=
  match portOf n with
  | some .a => none
  | q => q

/-- R204. -/
def setPermissions (s : State) (f : Frame) (p : Port) : State :=
  let groups := BitVec.ofNat 8 (byteAt f.body 1)
  answer (modPort s p (fun q => { q with permissions := groups })) f (u8 groups.toNat)

/-- SET_PERMISSIONS (R204). -/
def execSetPermissions (f : Frame) (s : State) : Host.Outcome State Fault Refusal :=
  request s f (immediate .setup [2]) (fun s => withFields s f (guestOf (byteAt f.body 0)) (setPermissions s f))

/-- What SET_PORT_LEVELS carries. -/
structure LevelFields where
  port : Port
  default : Level
  ceiling : Level
deriving DecidableEq, Repr

/-- R205: a default above the ceiling is lowered to the ceiling. -/
def levelFieldsOf (b : List Byte) : Option LevelFields := do
  let p ← portOf (byteAt b 0)
  let default ← levelOf (byteAt b 1)
  let ceiling ← levelOf (byteAt b 2)
  some { port := p, default := lowerTo ceiling default, ceiling := ceiling }

/-- R205. -/
def setPortLevels (s : State) (f : Frame) (x : LevelFields) : State :=
  answer (modPort s x.port (fun q => { q with defaultLevel := x.default, ceiling := x.ceiling })) f
    (u8 x.default.code ++ u8 x.ceiling.code)

/-- SET_PORT_LEVELS (R205). -/
def execSetPortLevels (f : Frame) (s : State) : Host.Outcome State Fault Refusal :=
  request s f (immediate .setup [3]) (fun s => withFields s f (levelFieldsOf f.body) (setPortLevels s f))

/-- R188: a change of the idle rest time, the part being idle or the deadline present, replaces the deadline. -/
def replaceIdleDeadline (s : State) (before : Nat) : State :=
  match s.power with
  | .run deadline =>
    if s.settings.idleRest != before && (deadline.isSome || isIdle s) then
      { s with power := .run (idleDeadlineFrom s) }
    else s
  | _ => s

/-- R206, R188. -/
def setConfig (s : State) (f : Frame) : State :=
  let s := replaceIdleDeadline { s with settings := settingsOf f.body s.settings } s.settings.idleRest
  answer s f (settingsBody s.settings)

/-- SET_CONFIG (R206). -/
def execSetConfig (f : Frame) (s : State) : Host.Outcome State Fault Refusal :=
  request s f (immediate .setup [20]) (fun s => setConfig s f)

end Sys2Proof.Machine
end

