-- ==== Sys2Proof/Machine/Partners.lean ====
section
/-! DEFINITION. What the instrument's partners deliver: ENCODER_READINGS, LOCK_SENSOR_FRAME, TILT_SAMPLE and
DISTANCE_ANSWER. -/

namespace Sys2Proof.Machine

/-! ### Encoders (R88, R92, R93, R95) -/

/-- R92: the unit tells the commander that the move has arrived. -/
def tellArrival (s : State) (commander : Option Commander) : State :=
  match commander with
  | some .acquisition => attemptArrival s
  | some .track => trackArrival s
  | none => s

/-- R92, R93: readings taken in MOVING. -/
def readingsInMove (s : State) (m : Move) : State :=
  if m.stopping then
    if atRest s.encoder then { s with drive := .holding (currentRaw s) } else s
  else if arrived s.encoder m.target then tellArrival { s with drive := .holding m.target } m.commander
  else s

/-- R88: the readings become the current raw positions and are tested as the drive's state calls for. -/
def takeReadings (s : State) (e : Encoder) : State :=
  let s := { s with encoder := e }
  match s.drive with
  | .moving m => readingsInMove s m
  | .holding held => if displaced e held then enterFault s .displaced else s
  | .off | .settling | .fault _ => s

/-- ENCODER_READINGS (R88). -/
def execEncoderReadings (e : Encoder) (s : State) : Host.Outcome State Fault Refusal :=
  if e.wf then .next (takeReadings s e) else .refused .notACommand

/-! ### The lock sensor (R104, R132) -/

/-- R106: the selection, with the minimum strength and separation guard read as the frame is judged. -/
def selectionOf (s : State) (g : List Sighting) : Selection :=
  selectSighting s.settings.minStrength s.settings.separationGuard g

/-- R132: whether the track judges a frame. -/
def trackJudges (s : State) (t : Track) : Bool :=
  match s.grant.track with
  | .holding false =>
    match t.state with
    | .acquiring => t.acquirePhase = some .sensing || (t.acquirePhase = some .searching && !isMoving s)
    | .tracking | .coasting => true
    | .searching => !isMoving s
    | .suspended => false
  | _ => false

/-- A frame goes to the attempt in flight, or else to the track that holds the axes; otherwise it is discarded. -/
def takeFrame (s : State) (g : List Sighting) : State :=
  match s.attempt, s.track with
  | some t, _ => if judgesFrame s t then afterEvent (judgeFrame s t (selectionOf s g)) else s
  | none, some t => if trackJudges s t then afterEvent (trackFrame s t (selectionOf s g)) else s
  | none, none => s

/-- LOCK_SENSOR_FRAME (R104). -/
def execLockSensorFrame (g : List Sighting) (s : State) : Host.Outcome State Fault Refusal :=
  if sightingsWf g then .next (takeFrame s g) else .refused .notACommand

/-! ### The compensator (R153) -/

/-- R116, R140: a sample over range ends an attempt in FINE and a track that holds the axes (log entry 6). -/
def overRange (s : State) (t : TiltSample) : State :=
  if t = .overRange then afterEvent (endHoldingTrack (attemptTilt s t) .outOfLevel) else s

/-- TILT_SAMPLE (R153). -/
def execTiltSample (t : TiltSample) (s : State) : Host.Outcome State Fault Refusal :=
  if t.wf then .next (overRange (takeTilt s t) t) else .refused .notACommand

/-! ### The distance unit (R119, R120, R143) -/

/-- The answer to the request in flight; any other answer is discarded (log entry 12). -/
def answerDistance (s : State) (number : Nat) (a : DistanceAnswer) : State :=
  match s.distance with
  | some d => if d.number = number then takeAnswer s d a else s
  | none => s

/-- DISTANCE_ANSWER (R119). -/
def execDistanceAnswer (number : Nat) (a : DistanceAnswer) (s : State) : Host.Outcome State Fault Refusal :=
  .next (answerDistance s number a)

end Sys2Proof.Machine
end

