-- ==== Sys2Proof/Machine/Resets.lean ====
section
/-! DEFINITION. POWER_ON, RESET_LINE and PART_RESET (R45, R46, R60, R61, R85, R101, R102, R127, R130, R151, R166, R167,
R186, R195, R208), and the WAKE line (R191, R193). -/

namespace Sys2Proof.Machine

/-! ### Power-on -/

/-- The encoder readings once supply is applied: a free value (log entry 4). -/
def encoderAt (n : Nat) : Encoder :=
  let x := Config.encoderAtPowerOn n
  { h := (x.1.1.val : Int), v := (x.1.2.val : Int), restH := x.2.1, restV := x.2.2 }

/-- Every block takes its power-on state. A request transaction under way as supply is applied is not modelled: POWER_ON
carries no operand for one, and `out` is empty after it (a choice, log entry 27). -/
def powerOn (s : State) : State :=
  { State.reset with pending := s.pending, wakeLine := s.wakeLine, encoder := encoderAt s.powerOns,
                     powerOns := s.powerOns + 1 }

/-- POWER_ON (R195, R208). -/
def execPowerOn (s : State) : Host.Outcome State Fault Refusal := .next (powerOn s)

/-! ### The part-wide reset -/

/-- R167. -/
def resetStation (st : Station) : Station :=
  { st with state := if st.state = .set then .suspect else st.state, check := none }

/-- R186. -/
def resetRound (r : Round) : Round :=
  if r.state = .running then { r with state := .armed, stopping := false, cursor := 0 } else r

/-- R207 steps 1 to 3, then the PART_RESET notice (R208). -/
def resetPortRecord (now : Nat) (q : PortRecord) : PortRecord := addNotice now .partReset (clearPort q)

/-- The RESET line or a PART_RESET, in every block. -/
def resetPart (s : State) : State :=
  { s with
    sets := s.sets.map resetSet,
    ports := { a := resetPortRecord s.elapsed s.ports.a, b := resetPortRecord s.elapsed s.ports.b,
               c := resetPortRecord s.elapsed s.ports.c },
    claims := { a := .reset, b := .reset, c := .reset },
    slots := Vector.replicate 16 none, grant := { active := none, track := .absent }, sequence := 0#32,
    drive := .off, attempt := none, distance := none, track := none, station := resetStation s.station,
    rounds := s.rounds.map resetRound, power := .rest }

/-- R208: a request transaction under way is discarded, and its status, if clocked out, reads BAD_FRAME. -/
def discardUnderWay (s : State) (p : Port) (bytes : Option Nat) : State :=
  match bytes with
  | none => s
  | some n => clockOut s p (List.replicate n 0x00#8 ++ [TransactionStatus.badFrame.byte])

/-- RESET_LINE (R208). The operand is for request frames alone. A reply-read or fix-read under way removes nothing, so it is
a read ended early before the reset, and no rule says what it clocks out afterwards: its bytes end at the reset, here and at
PART_RESET (a choice, log entry 29). -/
def execResetLine (underWay : UnderWay) (s : State) : Host.Outcome State Fault Refusal :=
  .next (discardUnderWay (discardUnderWay (discardUnderWay (resetPart s) .a underWay.a) .b underWay.b) .c underWay.c)

/-- PART_RESET from port A: its own frame reads ACCEPTED (R208). -/
def takePartReset (f : Frame) (underWay : UnderWay) (s : State) : State :=
  clockOut (discardUnderWay (discardUnderWay (resetPart s) .b underWay.b) .c underWay.c) f.port (frameOut f .accepted)

/-- PART_RESET (R208): ACCEPTED from port A in every case (R197 case 2); a setup request, refused to the other ports. -/
def execPartReset (f : Frame) (underWay : UnderWay) (s : State) : Host.Outcome State Fault Refusal :=
  if f.complete && f.port = .a && f.body.length = 0 then .next (takePartReset f underWay s)
  else request s f (immediate .setup [0]) (fun s => s)

/-! ### The WAKE line -/

/-- WAKE_LINE_ASSERT (R191): a LINE cause at the passage from released to asserted. -/
def execWakeLineAssert (s : State) : Host.Outcome State Fault Refusal :=
  .next (if s.wakeLine then s else takeWakeCause { s with wakeLine := true } .line)

/-- WAKE_LINE_RELEASE (R193). -/
def execWakeLineRelease (s : State) : Host.Outcome State Fault Refusal := .next { s with wakeLine := false }

end Sys2Proof.Machine
end

