-- ==== Sys2Proof/Machine/RoundRequests.lean ====
section
/-! DEFINITION. SET_ROUND, ARM_ROUND, DISARM_ROUND and READ_ROUND (chapter 9). -/

namespace Sys2Proof.Machine

/-- A DONE record carrying a round's record as it stands. -/
def answerRound (s : State) (f : Frame) (n : RoundNo) : State := answer s f (roundBody (roundAt s n) (outstanding s n))

/-- R176: the specification is replaced; a match of none disarms an ARMED round. -/
def specified (x : RoundFields) (r : Round) : Round :=
  { r with matching := x.matching, reportPort := x.reportPort, level := x.level, range := x.range,
           state := if r.state = .armed && x.matching = .never then .disarmed else r.state }

/-- R176. -/
def setRound (s : State) (f : Frame) (x : RoundFields) : State :=
  if (roundAt s x.round).state = .running then refuse s f .busy
  else answerRound (putRound s x.round (specified x (roundAt s x.round))) f x.round

/-- SET_ROUND (R176). -/
def execSetRound (f : Frame) (s : State) : Host.Outcome State Fault Refusal :=
  request s f (immediate (.group .round) [9]) (fun s => withFields s f (roundFieldsOf f.body) (setRound s f))

/-- R177: a DISARMED round becomes ARMED, and waits for the next second boundary that matches: one that a count has raised
already does not fire it. -/
def arm (s : State) (n : RoundNo) : State := putRound (passBoundary s n) n { roundAt s n with state := .armed }

/-- R177: the cases in their order. -/
def armRound (s : State) (f : Frame) (n : RoundNo) : State :=
  if !s.clock.valid then refuse s f .clockUnset
  else if (roundAt s n).matching = .never then refuse s f .badValue
  else match (roundAt s n).state with
    | .disarmed => answerRound (arm s n) f n
    | .armed => answerRound s f n
    | .running => if (roundAt s n).stopping then refuse s f .busy else answerRound s f n

/-- ARM_ROUND (R177). -/
def execArmRound (f : Frame) (s : State) : Host.Outcome State Fault Refusal :=
  request s f (immediate (.group .round) [1]) (fun s => withFields s f (roundNoOf (byteAt f.body 0)) (armRound s f))

/-- R184: the effect, then the DONE record, then the end test. -/
def disarmRound (s : State) (f : Frame) (n : RoundNo) : State :=
  match (roundAt s n).state with
  | .disarmed => answer s f []
  | .armed => answer (putRound s n { roundAt s n with state := .disarmed }) f []
  | .running => if (roundAt s n).stopping then answer s f [] else afterEvent (answer (stopRun s n) f [])

/-- DISARM_ROUND (R184). -/
def execDisarmRound (f : Frame) (s : State) : Host.Outcome State Fault Refusal :=
  request s f (immediate (.group .round) [1]) (fun s => withFields s f (roundNoOf (byteAt f.body 0)) (disarmRound s f))

/-- READ_ROUND (R178). -/
def execReadRound (f : Frame) (s : State) : Host.Outcome State Fault Refusal :=
  request s f (immediate .always [1]) (fun s => withFields s f (roundNoOf (byteAt f.body 0)) (answerRound s f))

end Sys2Proof.Machine
end

