-- ==== Sys2Proof/Machine/StationRequests.lean ====
section
/-! DEFINITION. SET_ORIENTATION, CHECK_ORIENTATION and READ_STATION (chapter 8). -/

namespace Sys2Proof.Machine

/-- R156: the effect: ω, SET, the reference tilt and the notices, then the record with the previous state. -/
def orient (s : State) (f : Frame) (omega : Int) (tilt : Tilt) : State :=
  let previous := s.station.state
  let s := notifyAll { s with station := { s.station with omega := omega, state := .set, reference := some tilt } }
    .orientationSet
  answer s f (angle omega ++ tiltBytes (some tilt) ++ u8 previous.code)

/-- R156 checks 3 and 4. -/
def setOrientation (s : State) (f : Frame) (omega : Int) : State :=
  if s.station.check.isSome then refuse s f .busy
  else match tiltOf s.station.latest with
    | none => refuse s f .outOfLevel
    | some tilt => orient s f omega tilt

/-- SET_ORIENTATION (R156). -/
def execSetOrientation (f : Frame) (s : State) : Host.Outcome State Fault Refusal :=
  request s f (immediate (.group .station) [4]) (fun s =>
    withFields s f (angleOf (word32At f.body 0)) (setOrientation s f))

/-- R159: the check record at acceptance. -/
def acceptedCheck (f : Frame) (adopt : Bool) (ids : List Nat) : Check :=
  { port := f.port, tag := f.tag, adopt := adopt,
    items := ids.map (fun id => { id := id, outcome := none, deviation := none }), counted := true }

/-- R159: the check aims, placed in table order. -/
def placeCheckAims (s : State) (p : Port) (ids : List Nat) : State :=
  ids.foldl (fun s id => placeAim s (partAim p .check id false .urgent)) s

/-- R159: acceptance, before what follows from it. -/
def acceptCheck (s : State) (f : Frame) (adopt : Bool) (ids : List Nat) : State :=
  let s := { s with station := { s.station with check := some (acceptedCheck f adopt ids) } }
  placeCheckAims (takeWakeCause s .check) f.port ids

/-- R158 checks 3 to 6: the status of the first that fails. -/
def checkStatus (s : State) (ids : List Nat) : Option Status :=
  if s.station.check.isSome then some .busy
  else if s.station.state = .unset then some .noOrientation
  else if ids.isEmpty then some .noReferences
  else if 16 < occupancy s + ids.length then some .queueFull
  else none

/-- R158, R159. -/
def checkOrientation (s : State) (f : Frame) (adopt : Bool) : State :=
  match checkStatus s (referencesOf s) with
  | some st => refuse s f st
  | none => afterEvent (acceptCheck s f adopt (referencesOf s))

/-- CHECK_ORIENTATION (R158, R159). -/
def execCheckOrientation (f : Frame) (s : State) : Host.Outcome State Fault Refusal :=
  request s f (deferredKind (.group .station) [1]) (fun s =>
    withFields s f (yesNoOf (byteAt f.body 0)) (checkOrientation s f))

/-- READ_STATION (R157). -/
def execReadStation (f : Frame) (s : State) : Host.Outcome State Fault Refusal :=
  request s f (immediate .always [0]) (fun s => answer s f (stationBody s.station))

end Sys2Proof.Machine
end

