-- ==== Sys2Proof/Machine/TableRequests.lean ====
section
/-! DEFINITION. READ_TARGET, READ_SET, WRITE_TARGET, WRITE_TARGET_IF_RESERVED, FORGET_TARGET and WAIT_CHANGE
(chapters 2 and 3). -/

namespace Sys2Proof.Machine

/-! ### Reading -/

/-- READ_TARGET's body: an ID, and a mask whose bit 0 is the reserve option. -/
def readFieldsOf (b : List Byte) : Option (Nat × Bool) := do
  let id ← idOf (word16At b 0)
  let options ← rangeOf 0 1 (byteAt b 2)
  some (id, options = 1)

/-- R49: the port reserves an entry. A pending wait completes with REPLACED, naming the reservation given up. -/
def reserve (s : State) (p : Port) (id : Nat) : State :=
  let held := claim s p
  let s := putClaim s p { reservation := some id, wait := none }
  match held.wait, held.reservation with
  | some tag, some old => postReply s p (changeReply tag old .replaced) true
  | _, _ => s

/-- R33: the DONE body of a read, with the use count as it stands. -/
def readBody (s : State) (id : Nat) (way : Fin 4) (e : Entry) : List Byte :=
  targetBody (setOf id).val way e (useCount s id)

/-- R33, R49. -/
def readTarget (s : State) (f : Frame) (id : Nat) (reserving : Bool) : State :=
  match locate s id with
  | none => refuse s f .noSuchTarget
  | some (way, e) =>
    let s := answer (touchEntry s id) f (readBody s id way e)
    if reserving then reserve s f.port id else s

/-- READ_TARGET (R33, R49, R50). -/
def execReadTarget (f : Frame) (s : State) : Host.Outcome State Fault Refusal :=
  request s f (immediate (.group .tableRead) [3]) (fun s =>
    withFields s f (readFieldsOf f.body) (fun x => readTarget s f x.1 x.2))

/-- R34: the four way summaries in recency order. -/
def setBody (s : State) (k : Fin 32) : List Byte :=
  (setAt s k).order.flatMap (fun w =>
    let e := (setAt s k).ways[w]
    waySummary w e (match e with
      | some e => useCount s e.id
      | none => 0))

/-- READ_SET's body: a set number 0..31. -/
def setNoOf (b : List Byte) : Option (Fin 32) := if h : byteAt b 0 < 32 then some ⟨byteAt b 0, h⟩ else none

/-- READ_SET (R34). -/
def execReadSet (f : Frame) (s : State) : Host.Outcome State Fault Refusal :=
  request s f (immediate (.group .tableRead) [1]) (fun s =>
    withFields s f (setNoOf f.body) (fun k => answer s f (setBody s k)))

/-! ### Writing -/

/-- R29: the stored result counts as pinning. -/
def storedPinned (w : WriteFields) : Bool := w.pinned || w.rounds != 0#4

/-- R29: the pinned entries a set holds other than the entry being written. -/
def otherPins (t : TableSet) (id : Nat) : Nat := allWays.countP (fun w => t.ways[w].any (fun e => e.pinned && e.id != id))

/-- R29, R35 check 4: the write would pin a fourth entry. -/
def overPinned (s : State) (w : WriteFields) : Bool := storedPinned w && 3 ≤ otherPins (setAt s (setOf w.id)) w.id

/-- R31: an entry that an insertion may displace under the rule for a class. -/
def displaceable (s : State) (c : EntryClass) (e : Entry) : Bool := e.cls = c && !e.pinned && useCount s e.id = 0

/-- R31: the least recent way that qualifies. -/
def leastRecent (t : TableSet) (test : Option Entry → Bool) : Option (Fin 4) := t.order.reverse.find? (fun w => test t.ways[w])

/-- R31: the way an insertion takes. -/
def victimOf (s : State) (t : TableSet) (c : EntryClass) : Option (Fin 4) :=
  (leastRecent t (fun e => e.isNone)).or
    ((leastRecent t (fun e => e.any (displaceable s .transient))).or
      (if c = .retained then leastRecent t (fun e => e.any (displaceable s .retained)) else none))

/-- R36: the entry an insertion makes. -/
def insertedEntry (w : WriteFields) (d : Direction) (owner : Port) : Entry :=
  { id := w.id, role := w.role, cls := w.cls, pinned := storedPinned w, rounds := w.rounds, azimuth := d.azimuth,
    zenith := d.zenith, source := .entered, window := w.window, tolerance := w.tolerance, retryLimit := w.retryLimit,
    missCount := 0, owner := owner, lastObs := none }

/-- R37: the entry a rewrite leaves. -/
def rewrittenEntry (w : WriteFields) (e : Entry) : Entry :=
  let e := { e with role := w.role, cls := w.cls, pinned := storedPinned w, rounds := w.rounds, window := w.window,
                    tolerance := w.tolerance, retryLimit := w.retryLimit }
  match w.direction with
  | some d => { e with azimuth := d.azimuth, zenith := d.zenith, source := .entered, missCount := 0 }
  | none => e

/-- R32, R36: the insertion, its reply, and the eviction's report. -/
def insertEntry (s : State) (f : Frame) (w : WriteFields) (d : Direction) (way : Fin 4) : State :=
  let k := setOf w.id
  let evicted := ((setAt s k).ways[way]).map (·.id)
  let e := insertedEntry w d f.port
  let s := answer (storeEntry s k way e) f (writeBody 1 k.val way e evicted)
  match evicted with
  | some old => reportModification s old .evicted
  | none => s

/-- R37: the rewrite, its reply, and the report with cause WRITTEN. -/
def rewriteEntry (s : State) (f : Frame) (w : WriteFields) (way : Fin 4) (e : Entry) : State :=
  let k := setOf w.id
  let e := rewrittenEntry w e
  let s := answer (storeEntry s k way e) f (writeBody 2 k.val way e none)
  reportModification s w.id .written

/-- R35 checks 3 to 5 for a present ID. -/
def writePresent (s : State) (f : Frame) (w : WriteFields) (way : Fin 4) (e : Entry) : State :=
  if overPinned s w then refuse s f .setFull else rewriteEntry s f w way e

/-- R35 checks 3 to 5 for an absent ID. -/
def writeAbsent (s : State) (f : Frame) (w : WriteFields) : State :=
  match w.direction with
  | none => refuse s f .badValue
  | some d =>
    if overPinned s w then refuse s f .setFull
    else match victimOf s (setAt s (setOf w.id)) w.cls with
      | none => refuse s f .setFull
      | some way => insertEntry s f w d way

/-- R35: a plain write. -/
def writeTarget (s : State) (f : Frame) (w : WriteFields) : State :=
  match locate s w.id with
  | some (way, e) => writePresent s f w way e
  | none => writeAbsent s f w

/-- R52, R53: a conditional write rewrites, and never inserts. -/
def writeIfReserved (s : State) (f : Frame) (w : WriteFields) : State :=
  if (claim s f.port).reservation = some w.id then
    match locate s w.id with
    | some (way, e) => writePresent s f w way e
    | none => refuse s f .noReservation
  else refuse s f .noReservation

/-- WRITE_TARGET (R35). -/
def execWriteTarget (f : Frame) (s : State) : Host.Outcome State Fault Refusal :=
  request s f (immediate (.group .tableWrite) [11, 19]) (fun s =>
    withFields s f (writeFieldsOf f.body) (writeTarget s f))

/-- WRITE_TARGET_IF_RESERVED (R52). -/
def execWriteTargetIfReserved (f : Frame) (s : State) : Host.Outcome State Fault Refusal :=
  request s f (immediate (.group .tableWrite) [11, 19]) (fun s =>
    withFields s f (writeFieldsOf f.body) (writeIfReserved s f))

/-! ### Forgetting and waiting -/

/-- R38. -/
def forgetTarget (s : State) (f : Frame) (id : Nat) : State :=
  match locate s id with
  | none => refuse s f .noSuchTarget
  | some (way, e) =>
    if e.pinned then appendReply s f.port (doneReply f.tag .kept [])
    else if 0 < useCount s id then refuse s f .busy
    else reportModification (answer (dropWay s (setOf id) way) f []) id .forgotten

/-- FORGET_TARGET (R38). -/
def execForgetTarget (f : Frame) (s : State) : Host.Outcome State Fault Refusal :=
  request s f (immediate (.group .tableWrite) [2]) (fun s =>
    withFields s f (idOf (word16At f.body 0)) (forgetTarget s f))

/-- R54. -/
def waitChange (s : State) (f : Frame) : State :=
  if (claim s f.port).wait.isSome then refuse s f .busy
  else if (claim s f.port).reservation.isNone then refuse s f .noReservation
  else putClaim s f.port { claim s f.port with wait := some f.tag }

/-- WAIT_CHANGE (R54). -/
def execWaitChange (f : Frame) (s : State) : Host.Outcome State Fault Refusal :=
  request s f (deferredKind (.group .tableRead) [0]) (fun s => waitChange s f)

end Sys2Proof.Machine
end

