-- ==== Sys2Proof/Machine/TrackRequests.lean ====
section
/-! DEFINITION. START_TRACK and STOP_TRACK (chapter 7). -/

namespace Sys2Proof.Machine

/-- What START_TRACK carries. -/
structure TrackFields where
  target : Nat
  interval : Interval
  range : Bool
deriving DecidableEq, Repr

/-- R133 check 2. -/
def trackFieldsOf (b : List Byte) : Option TrackFields := do
  let id ← idOf (word16At b 0)
  let interval ← intervalOf (byteAt b 2)
  let options ← rangeOf 0 1 (byteAt b 3)
  some { target := id, interval := interval, range := options = 1 }

/-- R133 checks 3 to 6: the status of the first that fails. -/
def trackStatus (s : State) (p : Port) (x : TrackFields) : Option Status :=
  match s.track with
  | some t => some (if t.owner = p then .busy else .axesHeld)
  | none => if (lookup s x.target).isNone then some .noSuchTarget
    else if s.station.state = .unset then some .noOrientation else none

/-- R134: the track record at acceptance. -/
def acceptedTrack (s : State) (f : Frame) (x : TrackFields) : Track :=
  { state := .acquiring, owner := f.port, tag := f.tag, target := x.target, interval := x.interval, range := x.range,
    acceptedAt := s.elapsed, holdDeadline := none, holdPassed := false, aimsWaiting := anyQueued s.slots,
    solution := none, acquirePhase := none, lastSeen := none, anchor := none, coastDeadline := none, cursor := none,
    centreLook := false, latestDistance := none, lastFix := none, overrunTotal := 0 }

/-- R134, R65, R75, R191: acceptance, before what follows from it. -/
def acceptTrack (s : State) (f : Frame) (x : TrackFields) : State :=
  let s := { s with track := some (acceptedTrack s f x), grant := { s.grant with track := .waiting s.sequence },
                    sequence := s.sequence + 1#32 }
  leaveIdle (takeWakeCause s .track)

/-- R133, R134. -/
def startTrack (s : State) (f : Frame) (x : TrackFields) : State :=
  match trackStatus s f.port x with
  | some st => refuse s f st
  | none => afterEvent (acceptTrack s f x)

/-- START_TRACK (R133, R134). -/
def execStartTrack (f : Frame) (s : State) : Host.Outcome State Fault Refusal :=
  request s f (deferredKind (.group .track) [4]) (fun s => withFields s f (trackFieldsOf f.body) (startTrack s f))

/-- R147. -/
def stopTrack (s : State) (f : Frame) : State :=
  if s.track.any (fun t => t.owner = f.port) then afterEvent (endTrack (answer s f []) (some .stopTrack))
  else refuse s f .noSuchWork

/-- STOP_TRACK (R147). -/
def execStopTrack (f : Frame) (s : State) : Host.Outcome State Fault Refusal :=
  request s f (immediate (.group .track) [0]) (fun s => stopTrack s f)

end Sys2Proof.Machine
end

