-- ==== Sys2Proof/Machine/Dispatch.lean ====
section
/-! DEFINITION. One arm per command. -/

namespace Sys2Proof.Machine

def exec (i : Instr) (s : State) : Host.Outcome State Fault Refusal :=
  match i with
  | .powerOn => Sys2Proof.Machine.execPowerOn s
  | .resetLine underWay => Sys2Proof.Machine.execResetLine underWay s
  | .wakeLineAssert => Sys2Proof.Machine.execWakeLineAssert s
  | .wakeLineRelease => Sys2Proof.Machine.execWakeLineRelease s
  | .ignoredTransaction p first bytes => Sys2Proof.Machine.execIgnoredTransaction p first bytes s
  | .unknownRequest kind f => Sys2Proof.Machine.execUnknownRequest kind f s
  | .replyRead p clocked => Sys2Proof.Machine.execReplyRead p clocked s
  | .fixRead p clocked => Sys2Proof.Machine.execFixRead p clocked s
  | .readTarget f => Sys2Proof.Machine.execReadTarget f s
  | .readSet f => Sys2Proof.Machine.execReadSet f s
  | .writeTarget f => Sys2Proof.Machine.execWriteTarget f s
  | .writeTargetIfReserved f => Sys2Proof.Machine.execWriteTargetIfReserved f s
  | .forgetTarget f => Sys2Proof.Machine.execForgetTarget f s
  | .waitChange f => Sys2Proof.Machine.execWaitChange f s
  | .aim f => Sys2Proof.Machine.execAim f s
  | .aimDirection f => Sys2Proof.Machine.execAimDirection f s
  | .cancelAim f => Sys2Proof.Machine.execCancelAim f s
  | .wake f => Sys2Proof.Machine.execWake f s
  | .startTrack f => Sys2Proof.Machine.execStartTrack f s
  | .stopTrack f => Sys2Proof.Machine.execStopTrack f s
  | .setOrientation f => Sys2Proof.Machine.execSetOrientation f s
  | .checkOrientation f => Sys2Proof.Machine.execCheckOrientation f s
  | .readStation f => Sys2Proof.Machine.execReadStation f s
  | .setTime f => Sys2Proof.Machine.execSetTime f s
  | .alignMinute f => Sys2Proof.Machine.execAlignMinute f s
  | .readTime f => Sys2Proof.Machine.execReadTime f s
  | .setRound f => Sys2Proof.Machine.execSetRound f s
  | .armRound f => Sys2Proof.Machine.execArmRound f s
  | .disarmRound f => Sys2Proof.Machine.execDisarmRound f s
  | .readRound f => Sys2Proof.Machine.execReadRound f s
  | .clearFault f => Sys2Proof.Machine.execClearFault f s
  | .rest f => Sys2Proof.Machine.execRest f s
  | .readStatus f => Sys2Proof.Machine.execReadStatus f s
  | .setAttentionMode f => Sys2Proof.Machine.execSetAttentionMode f s
  | .portReset f => Sys2Proof.Machine.execPortReset f s
  | .setPermissions f => Sys2Proof.Machine.execSetPermissions f s
  | .setPortLevels f => Sys2Proof.Machine.execSetPortLevels f s
  | .setConfig f => Sys2Proof.Machine.execSetConfig f s
  | .partReset f underWay => Sys2Proof.Machine.execPartReset f underWay s
  | .encoderReadings e => Sys2Proof.Machine.execEncoderReadings e s
  | .stallDeadline => Sys2Proof.Machine.execStallDeadline s
  | .lockSensorFrame sightings => Sys2Proof.Machine.execLockSensorFrame sightings s
  | .tiltSample t => Sys2Proof.Machine.execTiltSample t s
  | .clockCount => Sys2Proof.Machine.execClockCount s
  | .trackTick => Sys2Proof.Machine.execTrackTick s
  | .roundFire n => Sys2Proof.Machine.execRoundFire n s
  | .distanceAnswer request answer => Sys2Proof.Machine.execDistanceAnswer request answer s
  | .distanceExpiry => Sys2Proof.Machine.execDistanceExpiry s
  | .retryDue slot => Sys2Proof.Machine.execRetryDue slot s
  | .coastDeadline => Sys2Proof.Machine.execCoastDeadline s
  | .holdDeadline => Sys2Proof.Machine.execHoldDeadline s
  | .settleDeadline => Sys2Proof.Machine.execSettleDeadline s
  | .idleDeadline => Sys2Proof.Machine.execIdleDeadline s
  | .attentionPulseEnd p => Sys2Proof.Machine.execAttentionPulseEnd p s

end Sys2Proof.Machine
end

