-- ==== Sys2Proof/Safety.lean ====
section
/-! DEFINITION. What a safe state of the block is, in the terms claims use: the conditions that every step keeps. -/

namespace Sys2Proof.Machine

/-! ### The target table (R23, R27, R29) -/

/-- R29: the pinned entries of a set. -/
def pinCount (t : TableSet) : Nat := allWays.countP (fun w => t.ways[w].any (fun e => e.pinned))

/-- R27: in a recency order, no invalid way stands before a valid one. -/
def validFirst (t : TableSet) : Bool :=
  t.order.dropWhile (fun w => t.ways[w].isSome) |>.all (fun w => t.ways[w].isNone)

/-- R23, R27, R29: each way appears once in the order, the invalid ways at its end; an entry lives in the set of its
ID, no two entries share an ID, a round member is pinned, and at most three entries are pinned. -/
def TableSet.ok (k : Fin 32) (t : TableSet) : Bool :=
  t.order.isPerm allWays && validFirst t
    && allWays.all (fun w => t.ways[w].all (fun e => setOf e.id = k && (e.pinned || e.rounds = 0#4)))
    && allWays.all (fun v => allWays.all (fun w =>
        v = w || t.ways[v].all (fun d => t.ways[w].all (fun e => d.id != e.id))))
    && pinCount t ≤ 3

def TableOk (s : State) : Prop := ∀ k : Fin 32, (setAt s k).ok k = true

/-! ### The grant and the slots (R70) -/

/-- R70: the grant names the ACTIVE aim, the only one, and the attempt in flight is its attempt. -/
def GrantOk (s : State) : Prop :=
  (∀ i : SlotNo, (slotAt s i).any (fun a => a.state = .active) = true ↔ s.grant.active = some i)
    ∧ s.attempt.map (·.slot) = s.grant.active

/-- R70, R132: the grant's track is absent exactly while no track runs. -/
def TrackOk (s : State) : Prop := s.grant.track = .absent ↔ s.track = none

/-! ### The drive and the power state (R98, R187) -/

/-- R187: REST with the drive OFF; WAKING with the drive SETTLING; RUN with the drive in HOLDING, MOVING or FAULT. -/
def PowerOk (s : State) : Prop :=
  match s.power, s.drive with
  | .rest, .off => True
  | .waking _ _, .settling => True
  | .run _, .holding _ => True
  | .run _, .moving _ => True
  | .run _, .fault _ => True
  | _, _ => False

/-! ### Ports (R200, R205) -/

/-- R200, R68, R205: at most 8 records in each reply queue, and no default level above the ceiling. -/
def PortsOk (s : State) : Prop :=
  ∀ p : Port, (portRecord s p).replies.length ≤ 8
    ∧ (portRecord s p).defaultLevel.rank ≤ (portRecord s p).ceiling.rank

/-! ### Ranges (section 9.1, R88, R152, R206) -/

/-- Section 9.1: a possible date and time. -/
def Clock.ok (c : Clock) : Bool :=
  c.year ≤ 99 && 1 ≤ c.month && c.month ≤ 12 && 1 ≤ c.day && c.day ≤ monthLength c.year c.month && c.weekday ≤ 6
    && c.hour ≤ 23 && c.minute ≤ 59 && c.second ≤ 59 && c.sub ≤ 1023

/-- R206: every parameter in its range. -/
def Settings.ok (c : Settings) : Bool :=
  500 ≤ c.retryDelay && c.retryDelay ≤ 10000 && 100 ≤ c.settleDelay && c.settleDelay ≤ 2000
    && (c.idleRest = 0 || (10 ≤ c.idleRest && c.idleRest ≤ 3600)) && 10 ≤ c.holdLimit && c.holdLimit ≤ 3600
    && 5 ≤ c.tiltGuard && c.tiltGuard ≤ 200 && 1 ≤ c.lockTolerance && c.lockTolerance ≤ 50
    && 1 ≤ c.minStrength && c.minStrength ≤ 255 && 100 ≤ c.separationGuard && c.separationGuard ≤ 2000
    && 500 ≤ c.coastTime && c.coastTime ≤ 10000 && c.adoptLimit ≤ 200

/-- The clock, the settings, the encoder positions and ω lie in their ranges. -/
def RangesOk (s : State) : Prop :=
  s.clock.ok = true ∧ s.settings.ok = true ∧ s.encoder.wf = true ∧ 0 ≤ s.station.omega ∧ s.station.omega < 4000000

/-- A safe state. -/
def Safe (s : State) : Prop := TableOk s ∧ GrantOk s ∧ TrackOk s ∧ PowerOk s ∧ PortsOk s ∧ RangesOk s

/-- A condition that every step keeps. -/
def Kept (inv : State → Prop) : Prop := ∀ s t : State, inv s → step s = .next t → inv t

end Sys2Proof.Machine
end

