-- ==== Sys2Proof/Certificates/Slice0/Obligations.lean ====
section
/-! DEFINITION. The statements for the provers. -/

namespace Sys2Proof.Claims
open Sys2Proof.Machine

/-! ### Transactions -/

/-- The bytes clocked out in a request transaction: 0x00 for kind, tag, length and body, then the status (R209). -/
def bytesOut (f : Frame) (status : Byte) : List Byte := List.replicate (3 + f.body.length) 0x00#8 ++ [status]

/-- The state with another record at one port. -/
def setPort (s : State) (p : Port) (q : PortRecord) : State := { s with ports := putPort s.ports p q }

/-- The state with the bytes of a port's transaction. -/
def clocked (s : State) (p : Port) (bytes : List Byte) : State := setPort s p { portRecord s p with out := bytes }

/-- R79, R201: `n` bytes clocked take the oldest record `r` out of the queue, and `h`, the oldest held one, into it. -/
def refilled (s : State) (p : Port) (r : Reply) (rest : List Reply) (h : Reply) (others : List Held) (n : Nat) : State :=
  setPort s p { portRecord s p with
    out := replyStream r ++ List.replicate (n - (5 + r.body.length)) 0x00#8, replies := rest ++ [h], held := others,
    pulse := if (portRecord s p).mode = .pulse then some (s.elapsed + 32) else (portRecord s p).pulse }

/-- A deadline falls before the next count of the clock (log entry 1). -/
def Arrives (s : State) (deadline : Nat) : Prop := deadline < (s.elapsed / 625 + 1) * 625

/-- The state once elapsed time has reached a deadline. -/
def later (s : State) (deadline : Nat) : State := { s with elapsed := max s.elapsed deadline }

/-- A request answered ACCEPTED, before its effect. -/
def taken (s : State) (f : Frame) : State := clocked s f.port (bytesOut f 0x5A#8)

/-- R197, R198 step 2: the frame is complete, its length is one of those permitted, the reply queue has a free place,
and the port may send the request. -/
def MayAsk (s : State) (f : Frame) (gate : Gate) (lengths : List Nat) : Prop :=
  f.complete = true ∧ f.body.length ∈ lengths ∧ (portRecord s f.port).replies.length < 8
    ∧ permitted f.port (portRecord s f.port).permissions gate = true

/-- R198 step 2: as `MayAsk`, but the port may not send the request. -/
def Denied (s : State) (f : Frame) (gate : Gate) (lengths : List Nat) : Prop :=
  f.complete = true ∧ f.body.length ∈ lengths ∧ (portRecord s f.port).replies.length < 8
    ∧ permitted f.port (portRecord s f.port).permissions gate = false

/-- R197 case 4: a deferred request also needs an open deferred count below 6. -/
def MayDefer (s : State) (f : Frame) (gate : Gate) (lengths : List Nat) : Prop :=
  MayAsk s f gate lengths ∧ openCount s f.port < 6

/-- The frame refused with a status, nothing else changed. -/
def refused (s : State) (f : Frame) (st : Status) : State := appendReply (taken s f) f.port (refusalReply f.tag st)

/-- The frame answered DONE OK, nothing else changed. -/
def answered (s : State) (f : Frame) (body : List Byte) : State := appendReply (taken s f) f.port (doneReply f.tag .ok body)

/-- Sections 11.5 and 12.2: frame, permission gate, permitted lengths and whether it is deferred, for each request kind
but PORT_RESET and PART_RESET. -/
def kindOf : Instr → Option (Frame × Gate × List Nat × Bool)
  | .readTarget f => some (f, .group .tableRead, [3], false)
  | .readSet f => some (f, .group .tableRead, [1], false)
  | .writeTarget f => some (f, .group .tableWrite, [11, 19], false)
  | .writeTargetIfReserved f => some (f, .group .tableWrite, [11, 19], false)
  | .forgetTarget f => some (f, .group .tableWrite, [2], false)
  | .waitChange f => some (f, .group .tableRead, [0], true)
  | .aim f => some (f, .group .aim, [4, 5], true)
  | .aimDirection f => some (f, .group .aim, [13, 14], true)
  | .cancelAim f => some (f, .group .aim, [0], false)
  | .wake f => some (f, .group .aim, [0], false)
  | .startTrack f => some (f, .group .track, [4], true)
  | .stopTrack f => some (f, .group .track, [0], false)
  | .setOrientation f => some (f, .group .station, [4], false)
  | .checkOrientation f => some (f, .group .station, [1], true)
  | .readStation f => some (f, .always, [0], false)
  | .setTime f => some (f, .group .clock, [7], false)
  | .alignMinute f => some (f, .group .clock, [0], false)
  | .readTime f => some (f, .always, [0], false)
  | .setRound f => some (f, .group .round, [9], false)
  | .armRound f => some (f, .group .round, [1], false)
  | .disarmRound f => some (f, .group .round, [1], false)
  | .readRound f => some (f, .always, [1], false)
  | .clearFault f => some (f, .group .part, [0], false)
  | .rest f => some (f, .group .part, [0], false)
  | .readStatus f => some (f, .always, [0], false)
  | .setAttentionMode f => some (f, .always, [1], false)
  | .setPermissions f => some (f, .setup, [2], false)
  | .setPortLevels f => some (f, .setup, [3], false)
  | .setConfig f => some (f, .setup, [20], false)
  | _ => none

/-- A length for which R197 case 1 answers BAD_FRAME. -/
def wrongLength (lengths : List Nat) (f : Frame) : Prop := 60 < f.body.length ∨ f.body.length ∉ lengths

/-! ### The part-wide reset -/

/-- What the RESET line and PART_RESET leave (R46, R61, R85, R102, R127, R151, R167, R186, R195, R207, R208). -/
def ResetLeaves (s t : State) : Prop :=
  (∀ (k : Fin 32) (w : Fin 4), (setAt t k).ways[w] = ((setAt s k).ways[w]).filter (fun e => e.pinned))
  ∧ (∀ k : Fin 32, (setAt t k).order
      = (setAt s k).order.filter (fun w => ((setAt s k).ways[w]).any (fun e => e.pinned))
        ++ (setAt s k).order.filter (fun w => ((setAt s k).ways[w]).any (fun e => !e.pinned))
        ++ (setAt s k).order.filter (fun w => ((setAt s k).ways[w]).isNone))
  ∧ (∀ p, claim t p = { reservation := none, wait := none })
  ∧ (∀ i, slotAt t i = none) ∧ t.grant = { active := none, track := .absent } ∧ t.sequence = 0#32
  ∧ t.drive = .off ∧ t.attempt = none ∧ t.distance = none ∧ t.track = none ∧ t.power = .rest
  ∧ t.station.omega = s.station.omega ∧ t.station.reference = s.station.reference
  ∧ t.station.latest = s.station.latest ∧ t.station.check = none
  ∧ t.station.state = (if s.station.state = .set then .suspect else s.station.state)
  ∧ (∀ n, roundAt t n = if (roundAt s n).state = .running
      then { roundAt s n with state := .armed, stopping := false, cursor := 0 } else roundAt s n)
  ∧ (∀ p, (portRecord t p).replies = [] ∧ (portRecord t p).held = [] ∧ (portRecord t p).fix = none
      ∧ (portRecord t p).overrun = 0 ∧ (portRecord t p).mode = .level ∧ (portRecord t p).notices = 0b0000000001#10
      ∧ (portRecord t p).permissions = (portRecord s p).permissions
      ∧ (portRecord t p).defaultLevel = (portRecord s p).defaultLevel
      ∧ (portRecord t p).ceiling = (portRecord s p).ceiling)
  ∧ t.settings = s.settings ∧ t.clock = s.clock ∧ t.tickDue = s.tickDue ∧ t.boundary = s.boundary
  ∧ t.untested = s.untested ∧ t.elapsed = s.elapsed ∧ t.encoder = s.encoder ∧ t.wakeLine = s.wakeLine
  ∧ t.requests = s.requests ∧ t.powerOns = s.powerOns

/-- The status a transaction under way reads when a reset is taken: BAD_FRAME (R208). -/
def ReadsBadFrame (t : State) (p : Port) (bytes : Option Nat) : Prop :=
  ∀ n, bytes = some n → (portRecord t p).out = List.replicate n 0x00#8 ++ [0xE2#8]

/-! ### The table -/

/-- R41, R51: a modification report with its cause, where there is an entry to report. -/
def reportOf (s : State) (id : Option Nat) (cause : ChangeCause) : State :=
  match id with
  | some k => reportModification s k cause
  | none => s

/-- R31: a way that qualifies, with no qualifying way behind it in the recency order. -/
def LeastRecentOf (t : TableSet) (test : Option Entry → Bool) (w : Fin 4) : Prop :=
  test t.ways[w] = true ∧ ∃ before after, t.order = before ++ w :: after ∧ ∀ v ∈ after, test t.ways[v] = false

/-- R31 rules 2 and 3: an unpinned entry of a class with use count 0. -/
def displaceableOf (s : State) (c : EntryClass) : Option Entry → Bool
  | some e => e.cls = c && !e.pinned && useCount s e.id = 0
  | none => false

/-- R36: the entry an insertion makes. -/
def newEntry (w : WriteFields) (d : Direction) (owner : Port) : Entry :=
  { id := w.id, role := w.role, cls := w.cls, pinned := w.pinned || w.rounds != 0#4, rounds := w.rounds,
    azimuth := d.azimuth, zenith := d.zenith, source := .entered, window := w.window, tolerance := w.tolerance,
    retryLimit := w.retryLimit, missCount := 0, owner := owner, lastObs := none }

/-- R37: the entry a rewrite leaves. -/
def rewritten (w : WriteFields) (e : Entry) : Entry :=
  { e with role := w.role, cls := w.cls, pinned := w.pinned || w.rounds != 0#4, rounds := w.rounds, window := w.window,
           tolerance := w.tolerance, retryLimit := w.retryLimit,
           azimuth := (w.direction.map (·.azimuth)).getD e.azimuth,
           zenith := (w.direction.map (·.zenith)).getD e.zenith,
           source := if w.direction.isSome then .entered else e.source,
           missCount := if w.direction.isSome then 0 else e.missCount }

/-- R29: the write would give its set a fourth pinned entry. -/
def pinLimitMet (s : State) (w : WriteFields) : Prop :=
  (w.pinned || w.rounds != 0#4) = true
    ∧ 3 ≤ allWays.countP (fun v => ((setAt s (setOf w.id)).ways[v]).any (fun e => e.pinned && e.id != w.id))

/-! ### Work -/

/-- R66, R67, R68: the aim a port's request admits. -/
def portAim (s : State) (f : Frame) (x : AimFields) : Aim :=
  { tag := some f.tag, port := f.port, origin := .port, target := x.target, face := x.face, learn := x.learn,
    range := x.range,
    level := lowerTo (portRecord s f.port).ceiling (x.level.getD (portRecord s f.port).defaultLevel),
    attempts := 0, sequence := 0#32, state := .queued, lastStatus := none, lastObservation := none }

/-- R66 check 3: no aim of the port carries the tag. -/
def TagFree (s : State) (f : Frame) : Prop :=
  ∀ i a, slotAt s i = some a → ¬ (a.origin = .port ∧ a.port = f.port ∧ a.tag = some f.tag)

/-- A slot is free. -/
def SlotFree (s : State) : Prop := ∃ i, slotAt s i = none

/-- R81: a slot holds the port's aim of the frame's tag, and no other slot does. -/
def NamesAim (s : State) (f : Frame) (i : SlotNo) (a : Aim) : Prop :=
  slotAt s i = some a ∧ a.origin = .port ∧ a.port = f.port ∧ a.tag = some f.tag
    ∧ ∀ j b, slotAt s j = some b → b.origin = .port → b.port = f.port → b.tag = some f.tag → j = i

/-- R134: the record of an accepted track. -/
def startedTrack (s : State) (f : Frame) (id : Nat) (interval : Interval) (range : Bool) : Track :=
  { state := .acquiring, owner := f.port, tag := f.tag, target := id, interval := interval, range := range,
    acceptedAt := s.elapsed, holdDeadline := none, holdPassed := false, aimsWaiting := anyQueued s.slots,
    solution := none, acquirePhase := none, lastSeen := none, anchor := none, coastDeadline := none, cursor := none,
    centreLook := false, latestDistance := none, lastFix := none, overrunTotal := 0 }

/-- R69: a check aim at a reference. -/
def checkAim (p : Port) (id : Nat) : Aim :=
  { tag := none, port := p, origin := .check, target := .entry id, face := .nearer, learn := false, range := false,
    level := .urgent, attempts := 0, sequence := 0#32, state := .queued, lastStatus := none, lastObservation := none }

/-- R159: the record of an accepted check. -/
def startedCheck (f : Frame) (ids : List Nat) : Check :=
  { port := f.port, tag := f.tag, adopt := byteAt f.body 0 = 1,
    items := ids.map (fun id => { id := id, outcome := none, deviation := none }), counted := true }

/-- R170: the clock a SET_TIME body names. -/
def clockNamed (f : Frame) : Clock :=
  { year := byteAt f.body 0, month := byteAt f.body 1, day := byteAt f.body 2, weekday := byteAt f.body 3,
    hour := byteAt f.body 4, minute := byteAt f.body 5, second := byteAt f.body 6, sub := 0, valid := true }

/-- R179: a round as its firing leaves it. -/
def firedRound (r : Round) (c : Clock) : Round :=
  { r with
    state := .running, stopping := false, cursor := 0, locked := 0, failed := 0, skipped := 0, missed := 0,
    started := epochOf c }

/-- R184: a round's aim that waits. -/
def waitingAim (n : RoundNo) (a : Aim) : Bool :=
  a.origin = .round n && match a.state with
    | .queued => true
    | .retryWait _ => true
    | _ => false

/-- R184: members of a round that its walk has not reached. -/
def unvisited (s : State) (n : RoundNo) (cursor : Nat) : Nat :=
  (List.range' cursor (128 - cursor)).countP (fun q => (entryAt s q).any (fun e => e.rounds.getLsbD n.val))

/-- R184: a running round as DISARM_ROUND leaves it. -/
def stoppedRound (s : State) (n : RoundNo) : Round :=
  { roundAt s n with
    stopping := true, cursor := 128,
    skipped := min 255 ((roundAt s n).skipped + unvisited s n (roundAt s n).cursor + countSlots s (waitingAim n)) }

/-- R206: a value given is clamped into its range; 65,535 is the mark *unchanged* (section 12.2). -/
def clampTo (low high held n : Nat) : Nat :=
  if n = 65535 then held else if n < low then low else if high < n then high else n

/-- R206: the ten parameters as SET_CONFIG leaves them; an idle rest time of 0 stays 0. -/
def configured (b : List Byte) (c : Settings) : Settings :=
  { retryDelay := clampTo 500 10000 c.retryDelay (word16At b 0),
    settleDelay := clampTo 100 2000 c.settleDelay (word16At b 2),
    idleRest := if word16At b 4 = 0 then 0 else clampTo 10 3600 c.idleRest (word16At b 4),
    holdLimit := clampTo 10 3600 c.holdLimit (word16At b 6), tiltGuard := clampTo 5 200 c.tiltGuard (word16At b 8),
    lockTolerance := clampTo 1 50 c.lockTolerance (word16At b 10),
    minStrength := clampTo 1 255 c.minStrength (word16At b 12),
    separationGuard := clampTo 100 2000 c.separationGuard (word16At b 14),
    coastTime := clampTo 500 10000 c.coastTime (word16At b 16), adoptLimit := clampTo 0 200 c.adoptLimit (word16At b 18) }

/-- R141: the fix of a tick. -/
def tickFix (t : Track) (seen : LastSeen) (c : Clock) (st : FixState) : Fix :=
  { epoch := epochOf c, state := st, readings := seen.readings, direction := seen.direction, residual := seen.residual,
    distance := t.latestDistance }

/-- R40: the last observation a fix update carries. -/
def fixSeen (x : Fix) : LastObservation :=
  { epoch := x.epoch, readings := some x.readings, direction := x.direction, distance := x.distance,
    status := if x.state = .tracking then .tracking else .coasting,
    flags := { drift := false, suspect := false, learned := false, learnSkipped := false } }

/-- R141, R142: the track record after a tick's fix. -/
def trackAfterFix (t : Track) (x : Fix) (filled : Bool) : Track :=
  { t with
    lastFix := some x, latestDistance := none,
    overrunTotal := if filled then min 255 (t.overrunTotal + 1) else t.overrunTotal }

/-- R93: a move that is stopped now. -/
def stoppedMove (s : State) (m : Move) : Move :=
  { m with stopping := true, commander := none, deadline := s.elapsed + 640 * 1500 }

/-- R93: the drive after a stop. -/
def stoppedDrive (s : State) : Drive :=
  match s.drive with
  | .moving m => if m.stopping then s.drive else .moving (stoppedMove s m)
  | d => d

/-- R127, R148: the distance request record with a requester's request abandoned. -/
def abandonedBy (c : Commander) (d : Option DistanceRequest) : Option DistanceRequest :=
  d.map (fun d => if d.requester = c then { d with abandoned := true } else d)

/-! ### Frames, searches and centring -/

/-- R113: both offsets lie within the lock tolerance. -/
def withinLock (s : State) (g : Sighting) : Prop :=
  g.x.natAbs ≤ s.settings.lockTolerance ∧ g.y.natAbs ≤ s.settings.lockTolerance

/-- R89, R90: the drive takes a move command. -/
def Drivable (s : State) : Prop := (∃ held, s.drive = .holding held) ∨ ∃ m, s.drive = .moving m

/-- R89, R90: a move to targets is in flight. -/
def moved (s : State) (target : Pointing) (c : Commander) : State := { s with drive := .moving (newMove s target c) }

/-- R88: the current raw positions. -/
def rawNow (s : State) : Pointing := { h := s.encoder.h, v := s.encoder.v }

/-- R6: no tilt can be computed with: no sample is held, or the sample is over range. -/
def NoTilt (s : State) : Prop := s.station.latest = none ∨ s.station.latest = some .overRange

/-- R106: `g` is nearer than `h`: a smaller distance from the crosshair or, at the same distance, a greater strength. -/
def Nearer (g h : Sighting) : Prop :=
  g.x * g.x + g.y * g.y < h.x * h.x + h.y * h.y
  ∨ (g.x * g.x + g.y * g.y = h.x * h.x + h.y * h.y ∧ h.strength < g.strength)

/-- R106: two sightings lie within the separation guard. -/
def Close (guard : Nat) (g h : Sighting) : Prop :=
  (g.x - h.x) * (g.x - h.x) + (g.y - h.y) * (g.y - h.y) ≤ (guard : Int) * guard

/-- R106: the selection over a frame, with the configured strength and guard. -/
def judged (s : State) (g : List Sighting) : Selection :=
  selectSighting s.settings.minStrength s.settings.separationGuard g

/-- R6: a sighting with its offsets clamped to ±2,000 (section 6.1; log entry 13). -/
def clamped (g : Sighting) : Sighting := { g with x := max (-2000) (min 2000 g.x), y := max (-2000) (min 2000 g.y) }

/-- R109: the cursor at the start of a search of a window. -/
def ringStart (window : Nat) : Cursor := { rings := (window + 1499) / 1500, ring := 1, index := 1 }

/-- R109: the window of an aim's target. -/
def WindowIs (s : State) (window : Nat) : AimTarget → Prop
  | .entry id => ∃ e, lookup s id = some e ∧ e.window = window
  | .direct _ w _ => w = window

/-- R76: the retry limit of an aim's target. -/
def LimitIs (s : State) (limit : Nat) : AimTarget → Prop
  | .entry id => ∃ e, lookup s id = some e ∧ e.retryLimit = limit
  | .direct _ _ n => n = limit

/-- R111, R112: the attempt searches on from a cursor: a move to the first position inside the band, or NOT_FOUND. -/
def soughtOn (s : State) (t : Attempt) (c : Option Cursor) : State :=
  match c.bind (seekPosition t.solution.raw t.solution.target.v 288) with
  | some (c', target) => moved { s with attempt := some { t with cursor := some c' } } target .acquisition
  | none => endAttempt { s with attempt := some { t with cursor := none } } .notFound none

/-- R113: the attempt in FINE with a sighting to test. -/
def inFine (t : Attempt) (g : Sighting) : Attempt :=
  if t.phase = .fine then { t with empties := 0, lastSighting := some g }
  else { t with phase := .fine, cursor := none, corrections := 0, empties := 0, lastSighting := some g }

/-- R117: the lock result of a sighting under a tilt. -/
def lockedOn (s : State) (tilt : Tilt) (g : Sighting) : LockResult :=
  let read := observedReadings (rawNow s) tilt { x := g.x, y := g.y }
  { face := if read.v < 2000000 then .i else .ii, readings := read,
    direction := observedDirection s.station.state s.station.omega read, residual := { x := g.x, y := g.y }, tilt := tilt,
    orientation := s.station.state, omega := s.station.omega, epoch := epochOf s.clock }

/-- R118: a request of the attempt sent now. -/
def requested (s : State) : State :=
  { s with distance := some { requester := .acquisition, abandoned := false, expiry := s.elapsed + 640 * 4000,
                              number := s.requests },
           requests := s.requests + 1 }

/-! ### Tracks -/

/-- R135, R145: the track turns to the solution for its entry, or ends OUT_OF_LEVEL. -/
def acquired (s : State) (t : Track) (e : Entry) : State :=
  match solveEntry s.station.state s.station.omega s.station.latest (rawNow s) e.azimuth e.zenith .nearer with
  | .ok sol => moved { s with track := some { t with state := .acquiring, solution := some sol,
                                                     acquirePhase := some .turning } } sol.raw .track
  | .error _ => endTrack s (some .outOfLevel)

/-- R136, R139: the track searches on from a cursor about a centre: a move to the first position inside the band, or LOST. -/
def trackSought (s : State) (t : Track) (centre : Pointing) (zenith : Int) (c : Option Cursor) : State :=
  match c.bind (seekPosition centre zenith 288) with
  | some (c', target) => moved { s with track := some { t with cursor := some c' } } target .track
  | none => endTrack { s with track := some t } (some .lost)

/-- R137: the track with a sighting followed under a tilt. -/
def followed (s : State) (t : Track) (tilt : Tilt) (g : Sighting) : Track :=
  let o : Offset := { x := g.x, y := g.y }
  let read := observedReadings (rawNow s) tilt o
  { t with
    state := .tracking, solution := none, acquirePhase := none, cursor := none, centreLook := false, coastDeadline := none,
    lastSeen := some { readings := read, direction := observedDirection s.station.state s.station.omega read, residual := o,
                       orientation := s.station.state },
    anchor := some { raw := (fineTargets (rawNow s) tilt o).1, zenith := (fineTargets (rawNow s) tilt o).2 } }

/-- R132: the track is in a place of its course where a frame is judged, with no move in flight where one is waited for. -/
def TrackLooks (s : State) (t : Track) : Prop :=
  t.state = .tracking ∨ t.state = .coasting ∨ (t.state = .acquiring ∧ t.acquirePhase = some .sensing)
  ∨ ((∀ m, s.drive ≠ .moving m)
      ∧ (t.state = .searching ∨ (t.state = .acquiring ∧ t.acquirePhase = some .searching)))

/-- R144, R148: the drive as the track leaves the axes: a move of the track is stopped. -/
def trackStopped (s : State) : Drive :=
  match s.drive with
  | .moving m => if m.commander = some .track then stoppedDrive s else s.drive
  | d => d

/-- R73, R144: the part with the track set aside. -/
def aside (s : State) (t : Track) : State :=
  { s with
    drive := trackStopped s, distance := abandonedBy .track s.distance, grant := { s.grant with track := .holding true },
    track := some { t with state := .suspended, coastDeadline := none, cursor := none, centreLook := false,
                           solution := none, acquirePhase := none } }

/-- A QUEUED aim of level URGENT waits. -/
def UrgentWaits (s : State) : Prop := ∃ i a, slotAt s i = some a ∧ a.state = .queued ∧ a.level = .urgent

/-- R71: the power state is RUN and the drive is not in FAULT. -/
def Ready (s : State) : Prop := (∃ d, s.power = .run d) ∧ ∀ cause, s.drive ≠ .fault cause

/-- R65: `a` arrived before `b`. -/
def ArrivedBefore (a b : BitVec 32) : Prop := 1 ≤ (b - a).toNat ∧ (b - a).toNat ≤ 2147483647

/-- R71, log entry 6: from `s` the rounds are served and the arbiter acts, a number of times, until it has no act left. -/
def Follows : Nat → State → State → Prop
  | 0, s, t => arbitrate (serveRounds s) = none ∧ t = serveRounds s
  | k + 1, s, t => ∃ u, arbitrate (serveRounds s) = some u ∧ Follows k u t

/-! ### Completions -/

/-- R78, R79: the completion record of an aim is appended and its slot freed, or the aim is held DONE_HELD. -/
def Delivered (u : State) (i : SlotNo) (a : Aim) (record : Reply) (t : State) : Prop :=
  ((portRecord u a.port).replies.length < 8 → (portRecord u a.port).held = [] →
      t = putSlot (appendReply u a.port record) i none)
  ∧ (8 ≤ (portRecord u a.port).replies.length ∨ (portRecord u a.port).held ≠ [] →
      t = setPort (putSlot u i (some { a with state := .doneHeld record })) a.port
        { portRecord u a.port with held := (portRecord u a.port).held ++ [.aim i] })

/-- R78: the completion record. -/
def completionOf (a : Aim) (origin : ReplyOrigin) (st : Status) : Reply :=
  { kind := .observation, origin := origin, status := st, body := observationBody a.target a.attempts a.lastObservation }

/-- R181: a round with a final status counted. -/
def countedRound (r : Round) (st : Status) : Round :=
  if st = .locked ∨ st = .lockedNoRange then { r with locked := min 255 (r.locked + 1) }
  else { r with failed := min 255 (r.failed + 1) }

/-- R78, R181, R160: from `u`, the aim in a slot completes with a final status, and `t` is what that leaves. -/
def Completes (u : State) (i : SlotNo) (a : Aim) (st : Status) (t : State) : Prop :=
  (a.origin = .port → Delivered u i a (completionOf a (.tag (a.tag.getD 0#8)) st) t)
  ∧ (∀ n, a.origin = .round n →
      Delivered (putRound u n (countedRound (roundAt u n) st)) i a (completionOf a (.round n) st) t)
  ∧ (∀ id, a.origin = .check → a.target = .entry id →
      t = putSlot (checkAimCompletes u id st ((a.lastObservation.bind (·.direction)).map (·.azimuth))) i none)

/-- R124, R25, R39: an entry with an observation update applied. -/
def observedEntry (e : Entry) (o : Observation) : Entry :=
  { e with
    lastObs := some { epoch := o.epoch, readings := o.sight.map (·.2), direction := o.direction, distance := o.distance,
                      status := o.status, flags := o.flags },
    missCount := if o.status = .locked ∨ o.status = .lockedNoRange then 0 else min 255 (e.missCount + 1),
    azimuth := if o.flags.learned then (o.direction.map (·.azimuth)).getD e.azimuth else e.azimuth,
    zenith := if o.flags.learned then (o.direction.map (fun d => max 250000 (min 1750000 d.zenith))).getD e.zenith
      else e.zenith,
    source := if o.flags.learned ∧ o.direction.isSome then .learned else e.source }

/-! ### Checks and rounds -/

/-- R160: the items of a check once an aim at `id` has completed. -/
def settled (s : State) (items : List CheckItem) (id : Nat) (st : Status) (observed : Option Int) : List CheckItem :=
  items.map (fun i => if i.id = id then
    { i with outcome := some st,
             deviation := match st, observed, lookup s id with
               | .locked, some x, some e => some (dev x e.azimuth, e.tolerance)
               | _, _, _ => none }
  else i)

/-- R161: the deviations of a check's items. -/
def deviations (items : List CheckItem) : List Int := items.filterMap (fun i => i.deviation.map (·.1))

/-- R163: the CHECK_RESULT record. -/
def checkRecord (c : Check) (items : List CheckItem) (result : Status) (before after : Int) (state : OrientationState) :
    Reply :=
  { kind := .checkResult, origin := .tag c.tag, status := result, body := checkResultBody items before after state }

/-- R69, R180: a round aim at an entry. -/
def roundAim (r : Round) (n : RoundNo) (id : Nat) : Aim :=
  { tag := none, port := r.reportPort, origin := .round n, target := .entry id, face := .nearer, learn := false,
    range := r.range, level := r.level, attempts := 0, sequence := 0#32, state := .queued, lastStatus := none,
    lastObservation := none }

/-- R180: a table position holds a member of the round. -/
def MemberAt (s : State) (n : RoundNo) (q : Nat) (e : Entry) : Prop :=
  entryAt s q = some e ∧ e.rounds.getLsbD n.val = true

/-- R180: feeding steps that follow one another while the conditions hold. -/
def FedBy (n : RoundNo) : Nat → State → State → Prop
  | 0, s, u => u = s
  | k + 1, s, u => mayFeed s n = true ∧ FedBy n k (feedStep s n) u

/-- R182: the end of a run. -/
def endedRun (u : State) (n : RoundNo) : State :=
  let r := roundAt u n
  let v := notify (putRound u n { r with state := if r.stopping then .disarmed else .armed, stopping := false })
    r.reportPort .roundEnded
  postReply (setPort v r.reportPort { portRecord v r.reportPort with
      held := (portRecord v r.reportPort).held.filter (fun h => match h with
        | .record x _ => !(x.kind = .roundSummary && x.origin = .round n)
        | .aim _ => true) })
    r.reportPort
    { kind := .roundSummary, origin := .round n, status := .ok,
      body := u8 (if r.stopping then 2 else 1) ++ epochBytes r.started ++ epochBytes (epochOf u.clock) ++ u8 r.locked
        ++ u8 r.failed ++ u8 r.skipped ++ u8 r.missed } false

/-- R182: the run is over. -/
def RunOver (u : State) (n : RoundNo) : Prop :=
  (roundAt u n).state = .running ∧ (roundAt u n).cursor = 128 ∧ outstanding u n = 0

/-- A round that the recorded boundary no longer concerns (log entry 2). -/
def passed (s : State) (n : RoundNo) : State := { s with untested := s.untested.filter (fun m => m != n) }

/-! ### The clock -/

/-- R168: the length of a month. -/
def daysOf (year month : Nat) : Nat :=
  if month = 2 then (if year % 4 = 0 then 29 else 28) else if month ∈ [4, 6, 9, 11] then 30 else 31

/-- R168, R169, R171: the whole minute after the one the clock stands in; the carry out of year 99 leaves it UNSET. -/
def minuteAfter (c : Clock) : Clock :=
  let w := (c.weekday + 1) % 7
  if c.minute < 59 then { c with minute := c.minute + 1, second := 0, sub := 0 }
  else if c.hour < 23 then { c with hour := c.hour + 1, minute := 0, second := 0, sub := 0 }
  else if c.day < daysOf c.year c.month then
    { c with day := c.day + 1, weekday := w, hour := 0, minute := 0, second := 0, sub := 0 }
  else if c.month < 12 then
    { c with month := c.month + 1, day := 1, weekday := w, hour := 0, minute := 0, second := 0, sub := 0 }
  else if c.year < 99 then
    { c with year := c.year + 1, month := 1, day := 1, weekday := w, hour := 0, minute := 0, second := 0, sub := 0 }
  else { year := 0, month := 1, day := 1, weekday := w, hour := 0, minute := 0, second := 0, sub := 0, valid := false }

/-- R169: the minute before the carry out of year 99. -/
def LastMinute (c : Clock) : Prop := c.year = 99 ∧ c.month = 12 ∧ c.day = 31 ∧ c.hour = 23 ∧ c.minute = 59

/-- R168, log entries 1 and 2: the part after a count that reached a second boundary. -/
def atBoundary (s : State) (c : Clock) : State :=
  { s with clock := c, elapsed := (s.elapsed / 625 + 1) * 625, tickDue := some c, boundary := some c,
           untested := [0, 1, 2, 3] }

/-! ### Ranges of the request fields (section 12.2) -/

/-- R198: 0 and 65,535 are no target IDs. -/
def BadId (b : List Byte) : Prop := word16At b 0 = 0 ∨ 65534 < word16At b 0

/-- A code of three values is not defined. -/
def BadCode3 (n : Nat) : Prop := n = 0 ∨ 3 < n

def BadRead (b : List Byte) : Prop := BadId b ∨ 1 < byteAt b 2

/-- R24: the fixed part of a write, and its direction part where the body has one. -/
def BadWrite (b : List Byte) : Prop :=
  BadId b ∨ byteAt b 2 = 0 ∨ 4 < byteAt b 2 ∨ byteAt b 3 = 0 ∨ 2 < byteAt b 3 ∨ 1 < byteAt b 4 ∨ 15 < byteAt b 5
  ∨ word16At b 6 < 1500 ∨ 12000 < word16At b 6 ∨ word16At b 8 = 0 ∨ 50000 < word16At b 8 ∨ 7 < byteAt b 10
  ∨ (b.length = 19 ∧ (3999999 < word32At b 11 ∨ word32At b 15 < 250000 ∨ 1750000 < word32At b 15))

/-- R66: the level is checked where the body names one. -/
def BadAim (b : List Byte) : Prop :=
  BadId b ∨ BadCode3 (byteAt b 2) ∨ 3 < byteAt b 3 ∨ (4 < b.length ∧ BadCode3 (byteAt b 4))

/-- R67; bit 0 of the options byte, AIM's learn option, is not accepted (log entry 10). -/
def BadAimDirection (b : List Byte) : Prop :=
  3999999 < word32At b 0 ∨ 3999999 < word32At b 4 ∨ word16At b 8 < 1500 ∨ 12000 < word16At b 8 ∨ 7 < byteAt b 10
  ∨ BadCode3 (byteAt b 11) ∨ 3 < byteAt b 12 ∨ byteAt b 12 % 2 = 1 ∨ (13 < b.length ∧ BadCode3 (byteAt b 13))

def BadTrack (b : List Byte) : Prop := BadId b ∨ 7 < byteAt b 2 ∨ 1 < byteAt b 3

/-- R175, R176: the range, the values it uses, the report port, the level and the range option. -/
def BadRound (b : List Byte) : Prop :=
  3 < byteAt b 0 ∨ 5 < byteAt b 1 ∨ (1 ≤ byteAt b 1 ∧ 59 < byteAt b 5) ∨ (2 ≤ byteAt b 1 ∧ 59 < byteAt b 4)
  ∨ (3 ≤ byteAt b 1 ∧ 23 < byteAt b 3) ∨ (byteAt b 1 = 4 ∧ 6 < byteAt b 2)
  ∨ (byteAt b 1 = 5 ∧ (byteAt b 2 = 0 ∨ 31 < byteAt b 2)) ∨ BadCode3 (byteAt b 6) ∨ BadCode3 (byteAt b 7) ∨ 1 < byteAt b 8

def BadLevels (b : List Byte) : Prop := BadCode3 (byteAt b 0) ∨ BadCode3 (byteAt b 1) ∨ BadCode3 (byteAt b 2)

/-! ### Drive, ports and status -/

/-- R92: both axes stand within 20 cu of the targets and are at rest. -/
def InPlace (e : Encoder) (target : Pointing) : Prop :=
  (dev e.h target.h).natAbs ≤ 20 ∧ (dev e.v target.v).natAbs ≤ 20 ∧ e.restH = true ∧ e.restV = true

/-- R96, R128: the part as a fault of the drive finds it, told to every port, with a request of the attempt abandoned. -/
def faulted (s : State) (cause : FaultCause) : State :=
  { notifyAll { s with drive := .fault cause } .driveFault with distance := abandonedBy .acquisition s.distance }

/-- R118: no attempt is in RANGING, so none waits for the distance request record. -/
def NotRanging (s : State) : Prop := ∀ t, s.attempt = some t → t.phase ≠ .ranging

/-- R118: the part once its distance request record becomes FREE: an attempt that waits in RANGING sends its request at once. -/
def Freed (s u : State) : Prop :=
  (NotRanging s → u = { s with distance := none }) ∧ (¬ NotRanging s → u = requested s)

/-- Section 12.2: the bytes of the items of READ_STATUS; 0xFF where the item is absent (section 12.4). -/
def powerByte : Power → Byte
  | .rest => 0x00#8 | .waking _ _ => 0x01#8 | .run _ => 0x02#8

def orientationByte : OrientationState → Byte
  | .unset => 0x00#8 | .set => 0x01#8 | .suspect => 0x02#8

def driveByte : Drive → Byte
  | .off => 0x00#8 | .settling => 0x01#8 | .holding _ => 0x02#8 | .moving _ => 0x03#8 | .fault _ => 0x04#8

def faultByte : Drive → Byte
  | .fault .stall => 0x01#8 | .fault .displaced => 0x02#8 | _ => 0xFF#8

def ownerByte : Option Track → Byte
  | none => 0xFF#8
  | some t => match t.owner with
    | .a => 0x01#8 | .b => 0x02#8 | .c => 0x03#8

def trackByte : Option Track → Byte
  | none => 0xFF#8
  | some t => match t.state with
    | .acquiring => 0x01#8 | .tracking => 0x02#8 | .coasting => 0x03#8 | .searching => 0x04#8 | .suspended => 0x05#8

def grantByte : GrantTrack → Byte
  | .absent => 0xFF#8 | .waiting _ => 0x01#8 | .holding _ => 0x02#8

def modeByte : AttentionMode → Byte
  | .level => 0x01#8 | .pulse => 0x02#8

/-! ### Request frames -/

/-- The frame of a request transaction of any kind. -/
def frameOf : Instr → Option Frame
  | .unknownRequest _ f => some f
  | .portReset f => some f
  | .partReset f _ => some f
  | c => (kindOf c).map (·.1)

end Sys2Proof.Claims

open Sys2Proof Sys2Proof.Machine Sys2Proof.Claims

/-! ### The step and the whole part -/

/-- A step takes the command at the front of the queue and runs it on the state with the queue's rest; on an empty queue
the block idles (log entry 16). -/
def Obligations.FrontCommandRuns : Prop :=
  (∀ (c : Instr) (rest : List Instr) (s : State), s.pending = c :: rest → step s = exec c { s with pending := rest })
  ∧ ∀ s : State, s.pending = [] → step s = .next s

/-- Every well-formed command answers a next state with the queue as it was. Of the ill-formed ones, an operand that no
sender can produce is refused by name, and a frame of more than 255 body bytes reads BAD_FRAME like one of more than 60 (log
entry 15). -/
def Obligations.NoCommandStopsTheBlock : Prop :=
  ∀ (c : Instr) (s : State),
    (c.wf = true → ∃ t, exec c s = .next t ∧ t.pending = s.pending)
    ∧ (c.wf = false → frameOf c = none → exec c s = .refused .notACommand)
    ∧ (∀ kind f, c = .unknownRequest kind f → unknownKind kind = false → exec c s = .refused .notACommand)
    ∧ (∀ f, frameOf c = some f → 255 < f.body.length → (∀ kind g, c = .unknownRequest kind g → unknownKind kind = true) →
        (f.complete = true → exec c s = .next (clocked s f.port (bytesOut f 0xE2#8)))
        ∧ (f.complete = false → exec c s = .next s))

/-- R45, R60, R85, R101, R130, R151, R166, R169, R186, R195, R204, R206, R208: the state after power-on, in the items the
spec gives. POWER_ON leaves it whatever stood before, with the encoders reporting positions of the circle (the positions are
a free value, log entry 4; the queue, the WAKE line and the count of power-ons are the model's). -/
def Obligations.ResetIsThePowerOnState : Prop :=
  (∀ (k : Fin 32), (∀ w : Fin 4, (setAt State.reset k).ways[w] = none) ∧ (setAt State.reset k).order = [3, 2, 1, 0])
  ∧ (∀ p, claim State.reset p = { reservation := none, wait := none })
  ∧ (∀ i, slotAt State.reset i = none) ∧ State.reset.grant = { active := none, track := .absent }
  ∧ State.reset.sequence = 0#32 ∧ State.reset.drive = .off ∧ State.reset.attempt = none ∧ State.reset.distance = none
  ∧ State.reset.track = none ∧ State.reset.power = .rest
  ∧ State.reset.station = { omega := 0, state := .unset, reference := none, latest := none, check := none }
  ∧ State.reset.clock = { year := 0, month := 1, day := 1, weekday := 6, hour := 0, minute := 0, second := 0, sub := 0,
                          valid := false }
  ∧ (∀ n, roundAt State.reset n =
      { matching := .never, reportPort := .a, level := .background, range := false, state := .disarmed, stopping := false,
        cursor := 0, locked := 0, failed := 0, skipped := 0, missed := 0, started := none })
  ∧ State.reset.settings =
      { retryDelay := 2000, settleDelay := 400, idleRest := 0, holdLimit := 600, tiltGuard := 30,
        lockTolerance := 3, minStrength := 40, separationGuard := 400, coastTime := 2000, adoptLimit := 20 }
  ∧ (∀ p, (portRecord State.reset p).replies = [] ∧ (portRecord State.reset p).held = []
      ∧ (portRecord State.reset p).fix = none ∧ (portRecord State.reset p).overrun = 0
      ∧ (portRecord State.reset p).mode = .level ∧ (portRecord State.reset p).notices = 0b1000000001#10
      ∧ openCount State.reset p = 0)
  ∧ (portRecord State.reset .a).permissions = 0xFF#8 ∧ (portRecord State.reset .b).permissions = 0b00001101#8
  ∧ (portRecord State.reset .c).permissions = 0b00001101#8
  ∧ (portRecord State.reset .a).defaultLevel = .normal ∧ (portRecord State.reset .a).ceiling = .urgent
  ∧ (portRecord State.reset .b).defaultLevel = .background ∧ (portRecord State.reset .b).ceiling = .normal
  ∧ (portRecord State.reset .c).defaultLevel = .normal ∧ (portRecord State.reset .c).ceiling = .normal
  ∧ ∀ s : State, ∃ e : Encoder, e.wf = true ∧ exec .powerOn s
    = .next { State.reset with pending := s.pending, wakeLine := s.wakeLine, encoder := e, powerOns := s.powerOns + 1 }

/-- The RESET line, and a PART_RESET from port A, reset every port and block and keep what R46, R167, R169, R186, R206
and R208 keep. -/
def Obligations.PartWideResetKeepsPins : Prop :=
  (∀ (u : UnderWay) (s : State), ∃ t, exec (.resetLine u) s = .next t ∧ ResetLeaves s t
      ∧ ∀ p, ReadsBadFrame t p (atPort u p))
  ∧ ∀ (f : Frame) (u : UnderWay) (s : State), f.complete = true → f.port = .a → f.body = [] →
      ∃ t, exec (.partReset f u) s = .next t ∧ ResetLeaves s t ∧ (portRecord t .a).out = bytesOut f 0x5A#8
        ∧ ReadsBadFrame t .b u.b ∧ ReadsBadFrame t .c u.c

/-- R191, R193: the WAKE line is a cause only as it passes to asserted; a cause wakes a resting part, joins the causes
of a waking one, and restarts a present idle deadline only when it is REQUEST or LINE. -/
def Obligations.WakeCausesAreTaken : Prop :=
  (∀ s : State, s.wakeLine = false → exec .wakeLineAssert s = .next (takeWakeCause { s with wakeLine := true } .line))
  ∧ (∀ s : State, s.wakeLine = true → exec .wakeLineAssert s = .next s)
  ∧ (∀ s : State, exec .wakeLineRelease s = .next { s with wakeLine := false })
  ∧ ∀ (s : State) (cause : WakeCause),
      (s.power = .rest → s.drive = .off → takeWakeCause s cause
        = { s with power := .waking (s.elapsed + 640 * s.settings.settleDelay) (BitVec.ofNat 6 (2 ^ cause.bit)),
                   drive := .settling })
      ∧ (∀ d causes, s.power = .waking d causes → takeWakeCause s cause
        = { s with power := .waking d (causes ||| BitVec.ofNat 6 (2 ^ cause.bit)) })
      ∧ (s.power = .run none → takeWakeCause s cause = s)
      ∧ (∀ d, s.power = .run (some d) → cause ≠ .request → cause ≠ .line → takeWakeCause s cause = s)
      ∧ (∀ d, s.power = .run (some d) → cause = .request ∨ cause = .line → s.settings.idleRest ≠ 0 →
          takeWakeCause s cause = { s with power := .run (some (s.elapsed + 640000 * s.settings.idleRest)) })

/-! ### The solver -/

/-- R2: the rounded quotient is a nearest integer to the exact one, and an exact half goes away from zero. -/
def Obligations.RoundingGoesToNearest : Prop :=
  ∀ a b : Int, b ≠ 0 →
    2 * (a - roundDiv a b * b).natAbs ≤ b.natAbs
    ∧ (2 * (a - roundDiv a b * b).natAbs = b.natAbs → a.natAbs < (roundDiv a b * b).natAbs)

/-- R4: the sighting band, and clamping into it: the nearest band edge the short way round, ties to face I; and the clamp
of an observed zenith where it is stored. -/
def Obligations.ClampGoesToTheNearestEdge : Prop :=
  (∀ v : Int, 0 ≤ v → v < 4000000 →
    (inBand v = true ↔ (250000 ≤ v ∧ v ≤ 1750000) ∨ (2250000 ≤ v ∧ v ≤ 3750000))
    ∧ (inBand v = true → clampBand v = v)
    ∧ (inBand v = false → clampBand v ∈ [250000, 1750000, 2250000, 3750000]
        ∧ ∀ e ∈ ([250000, 1750000, 2250000, 3750000] : List Int), (dev v (clampBand v)).natAbs ≤ (dev v e).natAbs))
  ∧ clampBand 0 = 250000 ∧ clampBand 2000000 = 1750000
  ∧ ∀ z : Int, 0 ≤ z → z ≤ 2000000 →
      clampStoredZenith z = (if z < 250000 then 250000 else if 1750000 < z then 1750000 else z)

/-- R12: the turn, its range and the half circle. R89, R94: a move's targets and commander, and its deadline, which allows
1,500 ms and the larger turn at 450 cu a millisecond (counted in the units of log entry 1). -/
def Obligations.TurnIsTheShorterWay : Prop :=
  (∀ current target : Int, 0 ≤ current → current < 4000000 → 0 ≤ target → target < 4000000 →
    turn current target = (if 2000000 < (target - current) % 4000000 then (target - current) % 4000000 - 4000000
      else (target - current) % 4000000)
    ∧ -1999999 ≤ turn current target ∧ turn current target ≤ 2000000
    ∧ ((target - current) % 4000000 = 2000000 → turn current target = 2000000)
    ∧ (turn current target = 0 ↔ current = target)
    ∧ (current + turn current target) % 4000000 = target)
  ∧ ∀ (s : State) (target : Pointing) (c : Commander),
      newMove s target c = {
        target := target, commander := some c, stopping := false,
        deadline := s.elapsed + 640 * (1500 + (roundDiv
          ((max (turn s.encoder.h target.h).natAbs (turn s.encoder.v target.v).natAbs : Nat) : Int) 450).toNat) }

/-! ### Transactions -/

/-- R197: an incomplete frame is as though it had never begun; a frame of a wrong length reads BAD_FRAME, a frame that
finds 8 records reads PORT_FULL, and so does a deferred one that finds six open; each is discarded and changes nothing. The
same of PORT_RESET, of PART_RESET, which meets a full queue from ports B and C alone (case 2), and of a kind that is not
defined, for which every length up to 60 is permitted. R209: an ignored transaction clocks 0x00 for every byte and changes
no other state. -/
def Obligations.DiscardedFramesChangeNothing : Prop :=
  (∀ (c : Instr) (f : Frame) (gate : Gate) (lengths : List Nat) (deferred : Bool) (s : State),
    kindOf c = some (f, gate, lengths, deferred) →
    (f.complete = false → exec c s = .next s)
    ∧ (f.complete = true → wrongLength lengths f → exec c s = .next (clocked s f.port (bytesOut f 0xE2#8)))
    ∧ (f.complete = true → ¬ wrongLength lengths f → 8 ≤ (portRecord s f.port).replies.length →
        exec c s = .next (clocked s f.port (bytesOut f 0xF1#8)))
    ∧ (f.complete = true → ¬ wrongLength lengths f → deferred = true → 6 ≤ openCount s f.port →
        exec c s = .next (clocked s f.port (bytesOut f 0xF1#8))))
  ∧ (∀ (f : Frame) (u : UnderWay) (s : State),
    (f.complete = false → exec (.portReset f) s = .next s ∧ exec (.partReset f u) s = .next s)
    ∧ (f.complete = true → f.body ≠ [] → exec (.portReset f) s = .next (clocked s f.port (bytesOut f 0xE2#8))
        ∧ exec (.partReset f u) s = .next (clocked s f.port (bytesOut f 0xE2#8)))
    ∧ (f.complete = true → f.body = [] → f.port ≠ .a → 8 ≤ (portRecord s f.port).replies.length →
        exec (.partReset f u) s = .next (clocked s f.port (bytesOut f 0xF1#8))))
  ∧ (∀ (kind : Byte) (f : Frame) (s : State), unknownKind kind = true →
    (f.complete = false → exec (.unknownRequest kind f) s = .next s)
    ∧ (f.complete = true → 60 < f.body.length →
        exec (.unknownRequest kind f) s = .next (clocked s f.port (bytesOut f 0xE2#8)))
    ∧ (f.complete = true → f.body.length ≤ 60 → 8 ≤ (portRecord s f.port).replies.length →
        exec (.unknownRequest kind f) s = .next (clocked s f.port (bytesOut f 0xF1#8))))
  ∧ ∀ (p : Port) (first : Byte) (n : Nat) (s : State), ignoredFirstByte first = true →
    exec (.ignoredTransaction p first n) s = .next (clocked s p (List.replicate n 0x00#8))

/-- R198 steps 1 and 2, R204: a kind that is not defined is refused UNKNOWN_REQUEST, whatever the port may ask; a taken request whose group the port does not hold, and a setup request from port B or C, is
refused NOT_PERMITTED and changes nothing more, a PART_RESET from B or C among them; port A holds every group. -/
def Obligations.PermissionIsAsked : Prop :=
  (∀ (c : Instr) (f : Frame) (gate : Gate) (lengths : List Nat) (deferred : Bool) (s : State),
    kindOf c = some (f, gate, lengths, deferred) → f.complete = true → f.body.length ∈ lengths →
    (portRecord s f.port).replies.length < 8 → openCount s f.port < 6 →
    permitted f.port (portRecord s f.port).permissions gate = false →
    exec c s = .next (refused s f .notPermitted))
  ∧ (∀ (f : Frame) (u : UnderWay) (s : State), f.complete = true → f.body = [] → f.port ≠ .a →
      (portRecord s f.port).replies.length < 8 → exec (.partReset f u) s = .next (refused s f .notPermitted))
  ∧ (∀ (kind : Byte) (f : Frame) (s : State), unknownKind kind = true → f.complete = true → f.body.length ≤ 60 →
      (portRecord s f.port).replies.length < 8 → exec (.unknownRequest kind f) s = .next (refused s f .unknownRequest))
  ∧ ∀ (m : Mask 8) (g : Group), permitted .a m (.group g) = true ∧ permitted .b m .setup = false
      ∧ permitted .c m .setup = false ∧ permitted .b m (.group g) = m.getLsbD g.bit
      ∧ permitted .c m (.group g) = m.getLsbD g.bit

/-- R198 step 3, R24, R66, R67, R133, R158, R175, R176, R204, R205: a field out of range, a code or a mask that is not
defined, gives BAD_VALUE and changes nothing more, for each field of the requests named; and no other body is without fields.
Of the options of AIM_DIRECTION, bit 0 set is refused: that it stands for AIM's learn option is log entry 10. The ranges of
READ_SET, READ_ROUND and SET_TIME stand in the statements about these; SET_CONFIG clamps. -/
def Obligations.ValuesOutOfRangeAreRefused : Prop :=
  (∀ (f : Frame) (s : State),
    (MayAsk s f (.group .tableRead) [3] → BadRead f.body → exec (.readTarget f) s = .next (refused s f .badValue))
    ∧ (MayAsk s f (.group .tableWrite) [11, 19] → BadWrite f.body →
      exec (.writeTarget f) s = .next (refused s f .badValue)
        ∧ exec (.writeTargetIfReserved f) s = .next (refused s f .badValue))
    ∧ (MayAsk s f (.group .tableWrite) [2] → BadId f.body → exec (.forgetTarget f) s = .next (refused s f .badValue))
    ∧ (MayDefer s f (.group .aim) [4, 5] → BadAim f.body → exec (.aim f) s = .next (refused s f .badValue))
    ∧ (MayDefer s f (.group .aim) [13, 14] → BadAimDirection f.body →
      exec (.aimDirection f) s = .next (refused s f .badValue))
    ∧ (MayDefer s f (.group .track) [4] → BadTrack f.body → exec (.startTrack f) s = .next (refused s f .badValue))
    ∧ (MayAsk s f (.group .station) [4] → 3999999 < word32At f.body 0 →
      exec (.setOrientation f) s = .next (refused s f .badValue))
    ∧ (MayDefer s f (.group .station) [1] → 1 < byteAt f.body 0 →
      exec (.checkOrientation f) s = .next (refused s f .badValue))
    ∧ (MayAsk s f (.group .round) [9] → BadRound f.body → exec (.setRound f) s = .next (refused s f .badValue))
    ∧ (MayAsk s f (.group .round) [1] → 3 < byteAt f.body 0 →
      exec (.armRound f) s = .next (refused s f .badValue) ∧ exec (.disarmRound f) s = .next (refused s f .badValue))
    ∧ (MayAsk s f .always [1] → byteAt f.body 0 = 0 ∨ 2 < byteAt f.body 0 →
      exec (.setAttentionMode f) s = .next (refused s f .badValue))
    ∧ (MayAsk s f .setup [2] → byteAt f.body 0 ≤ 1 ∨ 3 < byteAt f.body 0 →
      exec (.setPermissions f) s = .next (refused s f .badValue))
    ∧ (MayAsk s f .setup [3] → BadLevels f.body → exec (.setPortLevels f) s = .next (refused s f .badValue)))
  ∧ ∀ b : List Byte,
    (readFieldsOf b = none ↔ BadRead b) ∧ (writeFieldsOf b = none ↔ BadWrite b) ∧ (aimFieldsOf b = none ↔ BadAim b)
    ∧ (aimDirectionFieldsOf b = none ↔ BadAimDirection b) ∧ (trackFieldsOf b = none ↔ BadTrack b)
    ∧ (roundFieldsOf b = none ↔ BadRound b) ∧ (levelFieldsOf b = none ↔ BadLevels b)

/-- R79, R200, R202, R203: an appended record stands behind every record of its port's queue and starts or prolongs a pulse
under PULSE; a record of the part's own that finds no room joins the end of the held list; no other port and no other
state changes. A notice of a kind the set of a port lacks joins it, and starts or prolongs a pulse under PULSE; one of a
kind that is present changes nothing; and a notice to every port does the same at each. -/
def Obligations.RecordsGoBehind : Prop :=
  (∀ (s : State) (p : Port) (r : Reply) (deferred : Bool),
    appendReply s p r = setPort s p { portRecord s p with
        replies := (portRecord s p).replies ++ [r],
        pulse := if (portRecord s p).mode = .pulse then some (s.elapsed + 32) else (portRecord s p).pulse }
    ∧ ((portRecord s p).replies.length < 8 → (portRecord s p).held = [] → postReply s p r deferred = appendReply s p r)
    ∧ (8 ≤ (portRecord s p).replies.length ∨ (portRecord s p).held ≠ [] → postReply s p r deferred
        = setPort s p { portRecord s p with held := (portRecord s p).held ++ [.record r deferred] }))
  ∧ (∀ (s : State) (p : Port) (k : Notice),
    ((portRecord s p).notices.getLsbD k.bit = true → notify s p k = s)
    ∧ ((portRecord s p).notices.getLsbD k.bit = false → notify s p k = setPort s p { portRecord s p with
        notices := (portRecord (notify s p k) p).notices,
        pulse := if (portRecord s p).mode = .pulse then some (s.elapsed + 32) else (portRecord s p).pulse })
    ∧ (∀ j : Notice, (portRecord (notify s p k) p).notices.getLsbD j.bit = true
        ↔ (portRecord s p).notices.getLsbD j.bit = true ∨ j = k)
    ∧ portRecord (notifyAll s k) p = portRecord (notify s p k) p
    ∧ notifyAll s k = { s with ports := (notifyAll s k).ports })
  ∧ [Notice.partReset, .orientationSuspect, .orientationSet, .driveFault, .outOfLevel, .roundStarted, .roundEnded, .resting,
      .woke, .clockUnset].map Notice.bit = [0, 1, 2, 3, 4, 5, 6, 7, 8, 9]

/-- R79, R80, R201, R211, R142: a reply-read returns the oldest record and removes it only when its last byte has been
clocked; the oldest held record, or the record of the oldest DONE_HELD aim, whose slot is then freed, takes the place. A fix-read returns the fix with its overrun count and empties the slot in the
same way. An empty queue or slot returns 0x00 and changes nothing. -/
def Obligations.ReadsTakeTheOldest : Prop :=
  ∀ (p : Port) (n : Nat) (s : State),
    ((portRecord s p).replies = [] →
      exec (.replyRead p n) s = .next (clocked s p ([0x00#8].take n ++ List.replicate (n - 1) 0x00#8)))
    ∧ (∀ r rest, (portRecord s p).replies = r :: rest → n < 5 + r.body.length →
      exec (.replyRead p n) s = .next (clocked s p ((replyStream r).take n)))
    ∧ (∀ r rest, (portRecord s p).replies = r :: rest → 5 + r.body.length ≤ n → (portRecord s p).held = [] →
      exec (.replyRead p n) s = .next (setPort s p { portRecord s p with
        out := replyStream r ++ List.replicate (n - (5 + r.body.length)) 0x00#8, replies := rest }))
    ∧ (∀ r rest h d others, (portRecord s p).replies = r :: rest → 5 + r.body.length ≤ n →
      (portRecord s p).held = .record h d :: others →
      exec (.replyRead p n) s = .next (refilled s p r rest h others n))
    ∧ (∀ r rest i a h others, (portRecord s p).replies = r :: rest → 5 + r.body.length ≤ n →
      (portRecord s p).held = .aim i :: others → slotAt s i = some a → a.state = .doneHeld h →
      exec (.replyRead p n) s = .next (afterEvent (putSlot (refilled s p r rest h others n) i none)))
    ∧ ((portRecord s p).fix = none →
      exec (.fixRead p n) s = .next (clocked s p ([0x00#8].take n ++ List.replicate (n - 1) 0x00#8)))
    ∧ (∀ x, (portRecord s p).fix = some x → n < 36 →
      exec (.fixRead p n) s = .next (clocked s p ((fixStream x (portRecord s p).overrun).take n)))
    ∧ (∀ x, (portRecord s p).fix = some x → 36 ≤ n →
      exec (.fixRead p n) s = .next (setPort s p { portRecord s p with
        out := fixStream x (portRecord s p).overrun ++ List.replicate (n - 36) 0x00#8, fix := none, overrun := 0 }))

/-! ### The target table and the reservations -/

/-- R27, R28, R33, R49, R50: READ_TARGET moves the entry to most recent and reports it whole; with the reserve option the port
reserves it, and a pending wait completes with REPLACED naming the reservation given up; an absent ID is refused and
leaves the port's claims as they were. An entry moves to most recent by its way being put at the head of its set's order;
nothing else changes. -/
def Obligations.ReadTargetReportsAndReserves : Prop :=
  (∀ (f : Frame) (s : State), MayAsk s f (.group .tableRead) [3] → 1 ≤ word16At f.body 0 → word16At f.body 0 ≤ 65534 →
    byteAt f.body 2 ≤ 1 →
    let id := word16At f.body 0
    (locate s id = none → exec (.readTarget f) s = .next (refused s f .noSuchTarget))
    ∧ ∀ way e, locate s id = some (way, e) →
      let read := appendReply (touchEntry (taken s f) id) f.port
        (doneReply f.tag .ok (targetBody (id % 32) way e (useCount s id)))
      (byteAt f.body 2 = 0 → exec (.readTarget f) s = .next read)
      ∧ (byteAt f.body 2 = 1 → (claim s f.port).wait = none →
          exec (.readTarget f) s = .next (putClaim read f.port { reservation := some id, wait := none }))
      ∧ (∀ tag old, byteAt f.body 2 = 1 → (claim s f.port).wait = some tag → (claim s f.port).reservation = some old →
          exec (.readTarget f) s = .next (postReply (putClaim read f.port { reservation := some id, wait := none })
            f.port { kind := .change, origin := .tag tag, status := .ok, body := u16 old ++ u8 5 } true)))
  ∧ ∀ (s : State) (id : Nat) (way : Fin 4) (e : Entry), locate s id = some (way, e) →
    setAt (touchEntry s id) (setOf id)
      = { ways := (setAt s (setOf id)).ways, order := way :: (setAt s (setOf id)).order.erase way }
    ∧ (∀ k, k ≠ setOf id → setAt (touchEntry s id) k = setAt s k)
    ∧ touchEntry s id = { s with sets := (touchEntry s id).sets }

/-- R34: READ_SET refuses a set number above 31, and otherwise reports the four summaries in recency order and changes
nothing else. -/
def Obligations.ReadSetSurveysTheSet : Prop :=
  ∀ (f : Frame) (s : State), MayAsk s f (.group .tableRead) [1] →
    (31 < byteAt f.body 0 → exec (.readSet f) s = .next (refused s f .badValue))
    ∧ ∀ k : Fin 32, byteAt f.body 0 = k.val → exec (.readSet f) s = .next (answered s f
        ((setAt s k).order.flatMap (fun w => match (setAt s k).ways[w] with
          | none => u8 w.val ++ u8 0 ++ absentBytes 7
          | some e => u8 w.val ++ u8 1 ++ u16 e.id ++ u8 e.role.code ++ u8 e.cls.code ++ yesNo e.pinned
              ++ u8 (useCount s e.id) ++ u8 e.source.code)))

/-- R31, R32, R36: an accepted write of an absent ID puts the new entry into the victim's way, most recent, answers INSERTED
with the evicted ID, and reports the eviction. The victim is the least recent invalid way; else the least recent unpinned
TRANSIENT entry with use count 0; else, for a RETAINED insertion alone, the least recent such RETAINED entry; else none (the
use count of a check reference whose aim has ended: log entry 28). -/
def Obligations.InsertTakesTheVictim : Prop :=
  (∀ (f : Frame) (s : State) (w : WriteFields) (d : Direction) (way : Fin 4), MayAsk s f (.group .tableWrite) [11, 19] →
    writeFieldsOf f.body = some w → w.direction = some d → locate s w.id = none → ¬ pinLimitMet s w →
    victimOf s (setAt s (setOf w.id)) w.cls = some way →
    let k := setOf w.id
    let evicted := ((setAt s k).ways[way]).map (·.id)
    exec (.writeTarget f) s = .next (reportOf
      (appendReply (putSet (taken s f) k { ways := (setAt s k).ways.set way (some (newEntry w d f.port)),
                                            order := way :: (setAt s k).order.erase way })
        f.port (doneReply f.tag .ok (writeBody 1 k.val way (newEntry w d f.port) evicted)))
      evicted .evicted))
  ∧ ∀ (s : State) (t : TableSet) (c : EntryClass), (∀ w : Fin 4, w ∈ t.order) →
    let invalid : Option Entry → Bool := fun e => e.isNone
    let noneOf (test : Option Entry → Bool) : Prop := ∀ w : Fin 4, test t.ways[w] = false
    (∀ w, victimOf s t c = some w →
      LeastRecentOf t invalid w
      ∨ (noneOf invalid ∧ LeastRecentOf t (displaceableOf s .transient) w)
      ∨ (noneOf invalid ∧ noneOf (displaceableOf s .transient) ∧ c = .retained
          ∧ LeastRecentOf t (displaceableOf s .retained) w))
    ∧ (victimOf s t c = none ↔ noneOf invalid ∧ noneOf (displaceableOf s .transient)
        ∧ (c = .retained → noneOf (displaceableOf s .retained)))

/-- R37, R52, R53: an accepted write of a present ID rewrites it in its own way, answers REWRITTEN and reports WRITTEN;
the conditional write does the same while the port's reservation names the ID. -/
def Obligations.RewriteKeepsTheWay : Prop :=
  ∀ (f : Frame) (s : State) (w : WriteFields) (way : Fin 4) (e : Entry), MayAsk s f (.group .tableWrite) [11, 19] →
    writeFieldsOf f.body = some w → locate s w.id = some (way, e) → ¬ pinLimitMet s w →
    let k := setOf w.id
    let after := reportModification
      (appendReply (putSet (taken s f) k { ways := (setAt s k).ways.set way (some (rewritten w e)),
                                            order := way :: (setAt s k).order.erase way })
        f.port (doneReply f.tag .ok (writeBody 2 k.val way (rewritten w e) none)))
      w.id .written
    exec (.writeTarget f) s = .next after
    ∧ ((claim s f.port).reservation = some w.id → exec (.writeTargetIfReserved f) s = .next after)

/-- R24, R29, R31, R35, R52: an insertion without the direction part is BAD_VALUE; a write that meets the pin limit, and
an insertion without a victim, is SET_FULL; a conditional write without its reservation is NO_RESERVATION; each changes
nothing more. -/
def Obligations.WriteRefusalsChangeNothing : Prop :=
  ∀ (f : Frame) (s : State) (w : WriteFields), MayAsk s f (.group .tableWrite) [11, 19] →
    writeFieldsOf f.body = some w →
    (locate s w.id = none → w.direction = none → exec (.writeTarget f) s = .next (refused s f .badValue))
    ∧ (pinLimitMet s w → locate s w.id ≠ none ∨ w.direction ≠ none →
        exec (.writeTarget f) s = .next (refused s f .setFull))
    ∧ (locate s w.id = none → w.direction ≠ none → victimOf s (setAt s (setOf w.id)) w.cls = none →
        exec (.writeTarget f) s = .next (refused s f .setFull))
    ∧ ((claim s f.port).reservation ≠ some w.id →
        exec (.writeTargetIfReserved f) s = .next (refused s f .noReservation))
    ∧ ((claim s f.port).reservation = some w.id → locate s w.id ≠ none → pinLimitMet s w →
        exec (.writeTargetIfReserved f) s = .next (refused s f .setFull))

/-- R38: the four cases of FORGET_TARGET, by the entry's use count (a check reference's, once its aim has ended: log entry 28). -/
def Obligations.ForgetDropsUnusedEntry : Prop :=
  ∀ (f : Frame) (s : State), MayAsk s f (.group .tableWrite) [2] → 1 ≤ word16At f.body 0 → word16At f.body 0 ≤ 65534 →
    let id := word16At f.body 0
    let k := setOf id
    (locate s id = none → exec (.forgetTarget f) s = .next (refused s f .noSuchTarget))
    ∧ ∀ way e, locate s id = some (way, e) →
      (e.pinned = true →
        exec (.forgetTarget f) s = .next (appendReply (taken s f) f.port (doneReply f.tag .kept [])))
      ∧ (e.pinned = false → 0 < useCount s id → exec (.forgetTarget f) s = .next (refused s f .busy))
      ∧ (e.pinned = false → useCount s id = 0 → exec (.forgetTarget f) s = .next (reportModification
          (appendReply (putSet (taken s f) k { ways := (setAt s k).ways.set way none,
                                                order := (setAt s k).order.erase way ++ [way] })
            f.port (doneReply f.tag .ok [])) id .forgotten))

/-- R51, R54: a modification report breaks every reservation that names the ID, completes the waits of those ports with a
CHANGE record, and leaves every other claim, and all state but claims and ports, as it was. A WAIT_CHANGE taken while a wait
is pending is refused BUSY, without a reservation NO_RESERVATION; otherwise the wait becomes pending with the request's tag
and nothing else changes. -/
def Obligations.WaitsFollowReservations : Prop :=
  (∀ (s : State) (id : Nat) (cause : ChangeCause),
    let t := reportModification s id cause
    t = { s with claims := t.claims, ports := t.ports }
    ∧ ∀ p,
      ((claim s p).reservation = some id → claim t p = { reservation := none, wait := none })
      ∧ ((claim s p).reservation ≠ some id → claim t p = claim s p ∧ portRecord t p = portRecord s p)
      ∧ ((claim s p).reservation = some id → (claim s p).wait = none → portRecord t p = portRecord s p)
      ∧ (∀ tag, (claim s p).reservation = some id → (claim s p).wait = some tag →
          portRecord t p = portRecord (postReply s p
            { kind := .change, origin := .tag tag, status := .ok, body := u16 id ++ u8 cause.code } true) p))
  ∧ ∀ (f : Frame) (s : State), MayDefer s f (.group .tableRead) [0] →
    ((claim s f.port).wait.isSome = true → exec (.waitChange f) s = .next (refused s f .busy))
    ∧ ((claim s f.port).wait = none → (claim s f.port).reservation = none →
        exec (.waitChange f) s = .next (refused s f .noReservation))
    ∧ (∀ id, (claim s f.port).wait = none → (claim s f.port).reservation = some id →
        exec (.waitChange f) s = .next (putClaim (taken s f) f.port { reservation := some id, wait := some f.tag }))

/-! ### The aim queue and the arbiter -/

/-- R66, R67, R68: an AIM at a present target with the orientation known, and an AIM_DIRECTION, whose tag is free and
which find a free slot, are admitted: the aim enters QUEUED in a slot that was free, and what follows comes about. An AIM
whose tag is in use is refused BUSY, else one at an absent target NO_SUCH_TARGET, else NO_ORIENTATION while UNSET, else
QUEUE_FULL without a free slot; an AIM_DIRECTION whose tag is in use BUSY, else QUEUE_FULL without a free slot. -/
def Obligations.AimIsAdmittedOrRefused : Prop :=
  ∀ (f : Frame) (s : State) (x : AimFields),
    (MayDefer s f (.group .aim) [13, 14] → aimDirectionFieldsOf f.body = some x →
      (TagFree s f → SlotFree s → ∃ i, slotAt s i = none
        ∧ exec (.aimDirection f) s = .next (afterEvent (enterQueued (taken s f) i (portAim s f x))))
      ∧ (¬ TagFree s f → exec (.aimDirection f) s = .next (refused s f .busy))
      ∧ (TagFree s f → ¬ SlotFree s → exec (.aimDirection f) s = .next (refused s f .queueFull)))
    ∧ ∀ id, MayDefer s f (.group .aim) [4, 5] → aimFieldsOf f.body = some x → x.target = .entry id →
      (TagFree s f → SlotFree s → lookup s id ≠ none → s.station.state ≠ .unset →
        ∃ i, slotAt s i = none ∧ exec (.aim f) s = .next (afterEvent (enterQueued (taken s f) i (portAim s f x))))
      ∧ (¬ TagFree s f → exec (.aim f) s = .next (refused s f .busy))
      ∧ (TagFree s f → lookup s id = none → exec (.aim f) s = .next (refused s f .noSuchTarget))
      ∧ (TagFree s f → lookup s id ≠ none → s.station.state = .unset →
          exec (.aim f) s = .next (refused s f .noOrientation))
      ∧ (TagFree s f → lookup s id ≠ none → s.station.state ≠ .unset → ¬ SlotFree s →
          exec (.aim f) s = .next (refused s f .queueFull))

/-- R64, R65: an aim that enters QUEUED takes the arrival sequence counter's value, the counter rises by 1 and wraps; no
other slot changes, nor the table, the station, the rounds, the clock or the attempt in flight. -/
def Obligations.QueuedAimTakesSequence : Prop :=
  ∀ (s : State) (i : SlotNo) (a : Aim),
    let t := enterQueued s i a
    slotAt t i = some { a with state := .queued, sequence := s.sequence }
    ∧ t.sequence = s.sequence + 1#32
    ∧ (∀ j, j ≠ i → slotAt t j = slotAt s j)
    ∧ t.sets = s.sets ∧ t.station = s.station ∧ t.rounds = s.rounds ∧ t.clock = s.clock ∧ t.claims = s.claims
    ∧ t.attempt = s.attempt ∧ t.grant.active = s.grant.active ∧ t.settings = s.settings ∧ t.encoder = s.encoder

/-- R71, R75, R135, R188, log entry 6: the arbiter's act. With an aim ACTIVE there is none; neither is there one outside RUN,
or while the drive is in FAULT, unless a track holds the axes. Otherwise the best QUEUED aim is dispatched, or the waiting
track start, which counts as NORMAL at its own sequence, takes the axes and turns to its solution. After an event the rounds
are served and the arbiter acts, until it has no act (log entry 17 bounds the number); then the part's idleness is
tested. -/
def Obligations.ArbiterActsInOrder : Prop :=
  (∀ s : State, (∀ n, (roundAt s n).state ≠ .running) → (∀ b, s.grant.track ≠ .holding b) →
    ((∀ d, s.power ≠ .run d) → afterEvent s = s)
    ∧ ((∃ cause, s.drive = .fault cause) → afterEvent s = idleTest s))
  ∧ (∀ s : State,
    (s.grant.active ≠ none → arbitrate s = none)
    ∧ ((∀ b, s.grant.track ≠ .holding b) → ¬ Ready s → arbitrate s = none)
    ∧ (s.grant.active = none → Ready s → s.grant.track = .absent →
        (bestQueued s = none → arbitrate s = none)
        ∧ ∀ i a, bestQueued s = some (i, a) → arbitrate s = some (dispatch s i a))
    ∧ ∀ n, s.grant.active = none → Ready s → s.grant.track = .waiting n →
        (bestQueued s = none → arbitrate s = some (takeAxes s))
        ∧ ∀ i a, bestQueued s = some (i, a) →
          (a.level = .urgent ∨ (a.level = .normal ∧ ¬ ArrivedBefore n a.sequence) → arbitrate s = some (dispatch s i a))
          ∧ (a.level = .background ∨ (a.level = .normal ∧ ArrivedBefore n a.sequence) → arbitrate s = some (takeAxes s)))
  ∧ (∀ (s : State) (t : Track) (e : Entry), s.track = some t → lookup s t.target = some e → Drivable s →
    let taking : Track := { t with holdDeadline := some (s.elapsed + 640000 * s.settings.holdLimit), holdPassed := false }
    takeAxes s = acquired { s with grant := { s.grant with track := .holding false }, track := some taking } taking e)
  ∧ (∀ (k : Nat) (s t : State), k < 4096 → Follows k s t → afterEvent s = idleTest t)
  ∧ ∀ s : State,
    (isIdle s = true → s.power = .run none → idleTest s = { s with
      power := .run (if s.settings.idleRest = 0 then none else some (s.elapsed + 640000 * s.settings.idleRest)) })
    ∧ (isIdle s = true → s.power ≠ .run none → idleTest s = s)
    ∧ (isIdle s = false → ∀ d, s.power = .run d → idleTest s = { s with power := .run none })
    ∧ ((∀ d, s.power ≠ .run d) → idleTest s = s)

/-- R65, R71: among the QUEUED aims the choice falls on the highest level and, while the QUEUED aims' sequence numbers lie
within half the counter's range of some base, a wrap of the counter among them, on the earliest arrival since that base
among equal levels; there is none exactly when no aim is QUEUED. -/
def Obligations.HighestLevelEarliestFirst : Prop :=
  ∀ (s : State) (base : BitVec 32),
    (∀ i a, slotAt s i = some a → a.state = .queued → (a.sequence - base).toNat < 2147483648) →
    (bestQueued s = none ↔ ∀ i a, slotAt s i = some a → a.state ≠ .queued)
    ∧ ∀ i a, bestQueued s = some (i, a) → slotAt s i = some a ∧ a.state = .queued
      ∧ ∀ j b, slotAt s j = some b → b.state = .queued → b.level.rank < a.level.rank
          ∨ (b.level.rank = a.level.rank ∧ (a.sequence - base).toNat ≤ (b.sequence - base).toNat)

/-- R72, R103, R89, R90: a dispatched aim with attempts left and a solution becomes ACTIVE, its attempts rise by 1, an entry
target moves to most recent, the attempt record is filled, and the move to the raw targets is commanded, from HOLDING or in
place of a move in flight. The dispatch checks in their order: with the attempts spent the aim completes with its last status
and the attempts it had; else UNSET gives an entry target NO_ORIENTATION; else no usable tilt gives OUT_OF_LEVEL; else a
direct pointing outside the sighting band gives OUT_OF_REACH; the aim then completes with that status. -/
def Obligations.DispatchBeginsTheAttempt : Prop :=
  ∀ (s : State) (i : SlotNo) (a : Aim) (limit : Nat), slotAt s i = some a → LimitIs s limit a.target →
    let t := dispatch s i a
    let seen := touchTarget s a.target
    let ended : State := { seen with grant := { s.grant with active := none } }
    let tried : Aim := { a with state := .active, attempts := a.attempts + 1 }
    (∀ id, a.target = .entry id → seen = touchEntry s id) ∧ (∀ p w n, a.target = .direct p w n → seen = s)
    ∧ (∀ sol, a.attempts ≤ limit → Drivable s →
        (∀ id e, a.target = .entry id → lookup s id = some e →
          solveEntry s.station.state s.station.omega s.station.latest (rawNow s) e.azimuth e.zenith a.face = .ok sol) →
        (∀ p w n, a.target = .direct p w n → solveDirect s.station.latest (rawNow s) p a.face = .ok sol) →
        t.grant.active = some i ∧ slotAt t i = some tried ∧ (∀ j, j ≠ i → slotAt t j = slotAt s j)
        ∧ t.sets = seen.sets
        ∧ t.attempt = some { slot := i, phase := .turning, solution := sol, reachedSensing := false, cursor := none,
                             corrections := 0, empties := 0, lastSighting := none, lock := none }
        ∧ t.drive = .moving (newMove s sol.raw .acquisition)
        ∧ t.ports = s.ports ∧ t.claims = s.claims ∧ t.station = s.station ∧ t.power = s.power ∧ t.rounds = s.rounds)
    ∧ (∀ last, limit < a.attempts → a.lastStatus = some last → Completes ended i { a with state := .active } last t)
    ∧ (∀ id, a.attempts ≤ limit → a.target = .entry id →
        (s.station.state = .unset → Completes ended i tried .noOrientation t)
        ∧ (s.station.state ≠ .unset → NoTilt s → Completes ended i tried .outOfLevel t))
    ∧ (∀ p w n, a.attempts ≤ limit → a.target = .direct p w n →
        (NoTilt s → Completes ended i tried .outOfLevel t)
        ∧ (¬ NoTilt s → inBand p.v = false → Completes ended i tried .outOfReach t))

/-- R76, R77, R78, R79, R125, R181, R184: the ending of an attempt. An attempt that reached sensing hands its observation and
leaves it with the aim; one that did not hands none and the aim keeps the observation it had. A retryable status with
attempts left puts the aim into RETRY_WAIT for the retry delay, or removes it and counts it skipped where its round is
stopping; any other ending completes the aim: the record of a port's or a round's aim, the count of the round, the item of a
check. -/
def Obligations.AttemptEndsWithItsRecord : Prop :=
  ∀ (s : State) (t : Attempt) (a : Aim) (st : Status) (d : Option Nat) (limit : Nat),
    s.attempt = some t → slotAt s t.slot = some a → LimitIs s limit a.target →
    let o := observationOf s t a st d
    let sensed := if t.reachedSensing then handObservation s a.target o else s
    let u : State := { sensed with attempt := none, grant := { s.grant with active := none } }
    let b : Aim := if t.reachedSensing then { a with lastObservation := some o } else a
    let retried : Prop := (st = .notFound ∨ st = .obstructed) ∧ a.attempts ≤ limit
    let stopping (n : RoundNo) : Prop := a.origin = .round n ∧ (roundAt s n).state = .running ∧ (roundAt s n).stopping = true
    (retried → (∀ n, ¬ stopping n) → endAttempt s st d = putSlot u t.slot (some { b with
        state := .retryWait (s.elapsed + 640 * s.settings.retryDelay), lastStatus := some st }))
    ∧ (∀ n, retried → stopping n → endAttempt s st d
        = putSlot (putRound u n { roundAt s n with skipped := min 255 ((roundAt s n).skipped + 1) }) t.slot none)
    ∧ (¬ retried → Completes u t.slot b st (endAttempt s st d))

/-- R117, R121, R122, R123, R124, R39: the observation of an attempt. After lock it carries the lock result's angles, tilt,
residual and epoch; otherwise the latest tilt, the clock, and the last sighting's offsets on AMBIGUOUS and UNSTEADY. SUSPECT
is the orientation at lock; DRIFT a direction more than the tolerance from the stored one; LEARNED and LEARN_SKIPPED go with
the learn option on a success, by the orientation and ω at lock and now. The update reaches the entry, which moves to most
recent and is reported OBSERVED; a direct pointing has none. -/
def Obligations.ObservationIsBuilt : Prop :=
  ∀ (s : State) (t : Attempt) (a : Aim) (st : Status) (d : Option Nat),
    let o := observationOf s t a st d
    let success : Prop := st = .locked ∨ st = .lockedNoRange
    let maySave : Prop := ∃ k, t.lock = some k ∧ k.orientation = .set ∧ s.station.state = .set ∧ s.station.omega = k.omega
    (o.target = a.target ∧ o.attempt = a.attempts ∧ o.status = st ∧ o.distance = d)
    ∧ (∀ k, t.lock = some k → o.epoch = k.epoch ∧ o.sight = some (k.face, k.readings) ∧ o.direction = k.direction
        ∧ o.tilt = some k.tilt ∧ o.residual = some k.residual)
    ∧ (t.lock = none → o.epoch = epochOf s.clock ∧ o.sight = none ∧ o.direction = none
        ∧ (NoTilt s → o.tilt = none) ∧ (∀ l tr, s.station.latest = some (.values l tr) → o.tilt = some { l := l, t := tr })
        ∧ (st = .ambiguous ∨ st = .unsteady → o.residual = t.lastSighting.map (fun g => { x := g.x, y := g.y }))
        ∧ (st ≠ .ambiguous → st ≠ .unsteady → o.residual = none))
    ∧ (o.flags.suspect = true ↔ ∃ k, t.lock = some k ∧ k.orientation = .suspect)
    ∧ (o.flags.drift = true ↔ ∃ id e k dir, a.target = .entry id ∧ lookup s id = some e ∧ t.lock = some k
        ∧ k.direction = some dir
        ∧ (e.tolerance < (dev dir.azimuth e.azimuth).natAbs ∨ e.tolerance < (dir.zenith - e.zenith).natAbs))
    ∧ (o.flags.learned = true ↔ a.learn = true ∧ success ∧ maySave)
    ∧ (o.flags.learnSkipped = true ↔ a.learn = true ∧ success ∧ ¬ maySave)
    ∧ (∀ id way e, a.target = .entry id → locate s id = some (way, e) →
        handObservation s a.target o = reportModification (putSet s (setOf id)
          { ways := (setAt s (setOf id)).ways.set way (some (observedEntry e o)),
            order := way :: (setAt s (setOf id)).order.erase way }) id .observed)
    ∧ (∀ p w n, a.target = .direct p w n → handObservation s a.target o = s)

/-- R81, R82, R93, R127: CANCEL_AIM removes the port's waiting aim with a CANCELLED record; it stops the drive, abandons
the attempt and its distance request and removes an ACTIVE one in the same way; a tag that names no aim, or one that is
DONE_HELD, is refused NO_SUCH_WORK. That an aim which an INTERRUPTED answer left in RETRY_WAIT is removed as R81 says, where
R131 has NO_SUCH_WORK, is log entry 25. -/
def Obligations.CancelRemovesTheAim : Prop :=
  ∀ (f : Frame) (s : State), MayAsk s f (.group .aim) [0] →
    (TagFree s f → exec (.cancelAim f) s = .next (refused s f .noSuchWork))
    ∧ ∀ i a, NamesAim s f i a →
      let record : Reply := { kind := .observation, origin := .tag f.tag, status := .cancelled,
                              body := observationBody a.target a.attempts none }
      (∀ r, a.state = .doneHeld r → exec (.cancelAim f) s = .next (refused s f .noSuchWork))
      ∧ (a.state = .queued ∨ (∃ due, a.state = .retryWait due) →
          exec (.cancelAim f) s = .next (afterEvent (putSlot (appendReply (taken s f) f.port record) i none)))
      ∧ (a.state = .active →
          exec (.cancelAim f) s = .next (afterEvent (putSlot (appendReply
            { taken s f with
              drive := stoppedDrive s, distance := abandonedBy .acquisition s.distance,
              grant := { s.grant with active := none }, attempt := none } f.port record) i none)))

/-- R191, R192: WAKE is taken as a REQUEST cause and answered with the power state after it; without the AIM permission it
is refused. -/
def Obligations.WakeAnswersThePowerState : Prop :=
  ∀ (f : Frame) (s : State),
    (Denied s f (.group .aim) [0] → exec (.wake f) s = .next (refused s f .notPermitted))
    ∧ (MayAsk s f (.group .aim) [0] → exec (.wake f) s = .next (appendReply (takeWakeCause (taken s f) .request) f.port
      (doneReply f.tag .ok (match s.power with | .run _ => [0x02#8] | _ => [0x01#8]))))

/-! ### Tracks -/

/-- R65, R75, R133, R134: an accepted START_TRACK fills the track record, makes the grant WAITING with a sequence number,
and takes the TRACK cause; a running track of the port gives BUSY and one of another port AXES_HELD; else an
absent ID NO_SUCH_TARGET, and else the orientation UNSET NO_ORIENTATION. R147, R148:
STOP_TRACK answers DONE and then ends the port's track; without one it is refused. -/
def Obligations.TracksStartAndStop : Prop :=
  ∀ (f : Frame) (s : State),
    (∀ (interval : Interval), MayDefer s f (.group .track) [4] → 1 ≤ word16At f.body 0 → word16At f.body 0 ≤ 65534 →
      intervalOf (byteAt f.body 2) = some interval → byteAt f.body 3 ≤ 1 →
      (s.track = none → lookup s (word16At f.body 0) ≠ none → s.station.state ≠ .unset →
        exec (.startTrack f) s = .next (afterEvent (leaveIdle (takeWakeCause
          { taken s f with
            track := some (startedTrack s f (word16At f.body 0) interval (byteAt f.body 3 = 1)),
            grant := { s.grant with track := .waiting s.sequence }, sequence := s.sequence + 1#32 } .track))))
      ∧ (∀ t, s.track = some t → t.owner = f.port → exec (.startTrack f) s = .next (refused s f .busy))
      ∧ (∀ t, s.track = some t → t.owner ≠ f.port → exec (.startTrack f) s = .next (refused s f .axesHeld))
      ∧ (s.track = none → lookup s (word16At f.body 0) = none →
          exec (.startTrack f) s = .next (refused s f .noSuchTarget))
      ∧ (s.track = none → lookup s (word16At f.body 0) ≠ none → s.station.state = .unset →
          exec (.startTrack f) s = .next (refused s f .noOrientation)))
    ∧ (MayAsk s f (.group .track) [0] →
      (∀ t, s.track = some t → t.owner = f.port →
        exec (.stopTrack f) s = .next (afterEvent (endTrack (answered s f []) (some .stopTrack))))
      ∧ ((∀ t, s.track = some t → t.owner ≠ f.port) → exec (.stopTrack f) s = .next (refused s f .noSuchWork)))

/-- R93, R148: an ending stops a move of the track, abandons its distance request, empties the grant's track and the
record, and posts a TRACK_END record with the cause, the last fix, the duration and the overrun total; PORT_RESET and
RESET post none. -/
def Obligations.TrackEndReleasesTheAxes : Prop :=
  ∀ (s : State) (t : Track) (cause : Status), s.track = some t →
    let bare := endTrack s none
    bare.track = none ∧ bare.grant = { s.grant with track := .absent }
    ∧ bare.distance = abandonedBy .track s.distance
    ∧ (∀ m, s.drive = .moving m → m.commander = some .track → m.stopping = false →
        bare.drive = .moving (stoppedMove s m))
    ∧ ((∀ m, s.drive = .moving m → m.commander ≠ some .track) → bare.drive = s.drive)
    ∧ bare = { s with drive := bare.drive, distance := bare.distance, grant := bare.grant, track := none }
    ∧ endTrack s (some cause) = postReply bare t.owner
        { kind := .trackEnd, origin := .tag t.tag, status := cause,
          body := trackEndBody t.lastFix (msOfUnits (s.elapsed - t.acceptedAt)) t.overrunTotal } true

/-- R73, R74, R144, R145: while a track holds the axes and no aim is ACTIVE, a QUEUED URGENT aim sets it aside: its move is
stopped, its distance request abandoned, its search and acquisition dropped. With no URGENT aim QUEUED it keeps the axes, or,
set aside, resumes: about its anchor with a look at the centre first, or acquiring anew where it has none. An URGENT aim that
finds the track set aside is dispatched in RUN without a fault of the drive. -/
def Obligations.TrackStepsAside : Prop :=
  ∀ (s : State) (t : Track), s.grant.active = none → s.track = some t →
    (s.grant.track = .holding false → UrgentWaits s → arbitrate s = some (aside s t))
    ∧ (s.grant.track = .holding false → ¬ UrgentWaits s → arbitrate s = none)
    ∧ (s.grant.track = .holding true → Ready s → UrgentWaits s →
        ∃ i a, bestQueued s = some (i, a) ∧ a.level = .urgent ∧ arbitrate s = some (dispatch s i a))
    ∧ (s.grant.track = .holding true → ¬ UrgentWaits s → ∀ e, lookup s t.target = some e → Drivable s →
        let resumed : State := { s with grant := { s.grant with track := .holding false } }
        (t.anchor = none → arbitrate s = some (acquired resumed t e))
        ∧ ∀ a, t.anchor = some a → arbitrate s = some (moved { resumed with
            track := some { t with state := .searching, centreLook := true, cursor := some (ringStart e.window) } }
            a.raw .track))

/-! ### The station and the clock -/

/-- R156: SET_ORIENTATION takes ω, makes the state SET with the latest tilt sample as reference, tells every port, and
answers with ω, the reference and the previous state; the refusals are NOT_PERMITTED, BAD_VALUE for ω out of range, BUSY
while a check runs and OUT_OF_LEVEL without a usable sample, in that order. -/
def Obligations.SetOrientationTakesTheTilt : Prop :=
  ∀ (f : Frame) (s : State),
    (Denied s f (.group .station) [4] → exec (.setOrientation f) s = .next (refused s f .notPermitted))
    ∧ (MayAsk s f (.group .station) [4] → 3999999 < word32At f.body 0 →
      exec (.setOrientation f) s = .next (refused s f .badValue))
    ∧ (MayAsk s f (.group .station) [4] → word32At f.body 0 ≤ 3999999 →
    (s.station.check ≠ none → exec (.setOrientation f) s = .next (refused s f .busy))
    ∧ (s.station.check = none → s.station.latest = none ∨ s.station.latest = some .overRange →
        exec (.setOrientation f) s = .next (refused s f .outOfLevel))
    ∧ ∀ l t, s.station.check = none → s.station.latest = some (.values l t) →
        exec (.setOrientation f) s = .next (appendReply
          (notifyAll { taken s f with station := { s.station with omega := word32At f.body 0, state := .set,
                                                                  reference := some { l := l, t := t } } } .orientationSet)
          f.port (doneReply f.tag .ok (u32 (word32At f.body 0) ++ i16 l ++ i16 t ++ u8 s.station.state.code))))

/-- R158, R159: an accepted CHECK_ORIENTATION forms the check record with one pending item per reference in table order,
takes the CHECK cause, and places one URGENT check aim for each; the refusals come in their order. -/
def Obligations.CheckPlacesOneAimEach : Prop :=
  ∀ (f : Frame) (s : State), MayDefer s f (.group .station) [1] → byteAt f.body 0 ≤ 1 →
    let ids := referencesOf s
    (s.station.check ≠ none → exec (.checkOrientation f) s = .next (refused s f .busy))
    ∧ (s.station.check = none → s.station.state = .unset →
        exec (.checkOrientation f) s = .next (refused s f .noOrientation))
    ∧ (s.station.check = none → s.station.state ≠ .unset → ids = [] →
        exec (.checkOrientation f) s = .next (refused s f .noReferences))
    ∧ (s.station.check = none → s.station.state ≠ .unset → ids ≠ [] → 16 < occupancy s + ids.length →
        exec (.checkOrientation f) s = .next (refused s f .queueFull))
    ∧ (s.station.check = none → s.station.state ≠ .unset → ids ≠ [] → occupancy s + ids.length ≤ 16 →
        exec (.checkOrientation f) s = .next (afterEvent (ids.foldl
          (fun u id => placeAim u (checkAim f.port id))
          (takeWakeCause { taken s f with station := { s.station with check := some (startedCheck f ids) } } .check))))

/-- R160 to R163, R19, R20: a check aim that completes settles its item, with the deviation of a LOCKED aim from the entry as
it stands. With an item still pending nothing more follows. With none the check concludes: INCOMPLETE without a deviation or
without a usable tilt; CONFIRMED with every deviation inside its tolerance; ADOPTED, where that was asked, with at least two
whose spread is no greater than the adopt limit; REJECTED otherwise. The station changes by the result, the check record goes,
and the requesting port gets its record. The mean is the rounded average, the spread the largest less the smallest. -/
def Obligations.CheckConcludes : Prop :=
  (∀ (s : State) (c : Check) (id : Nat) (st : Status) (observed : Option Int), s.station.check = some c →
    let items := settled s c.items id st observed
    let ds := deviations items
    let after := checkAimCompletes s id st observed
    let inside : Prop := ∀ i ∈ items, ∀ x tol, i.deviation = some (x, tol) → x.natAbs ≤ tol
    let agree : Prop := c.adopt = true ∧ 2 ≤ ds.length ∧ spread ds ≤ s.settings.adoptLimit
    let record (result : Status) (omega : Int) (state : OrientationState) : Reply :=
      checkRecord c items result s.station.omega omega state
    ((∃ i ∈ items, i.outcome = none) →
      after = { s with station := { s.station with check := some { c with items := items } } })
    ∧ ((∀ i ∈ items, i.outcome ≠ none) →
      (ds = [] ∨ NoTilt s → after = postReply { s with station := { s.station with check := none } } c.port
          (record .incomplete s.station.omega s.station.state) c.counted)
      ∧ ∀ l tr, ds ≠ [] → s.station.latest = some (.values l tr) →
        (inside → after = postReply (notifyAll
            { s with station := { s.station with state := .set, reference := some { l := l, t := tr }, check := none } }
            .orientationSet) c.port (record .confirmed s.station.omega .set) c.counted)
        ∧ (¬ inside → agree →
            let omega := (s.station.omega - adoptionMean ds) % 4000000
            after = postReply (notifyAll
              { s with station := { s.station with omega := omega, state := .set, reference := some { l := l, t := tr },
                                                   check := none } } .orientationSet) c.port (record .adopted omega .set)
              c.counted)
        ∧ (¬ inside → ¬ agree →
            let left : State := { s with station := { s.station with state := .suspect, check := none } }
            after = postReply (if s.station.state = .set then notifyAll left .orientationSuspect else left) c.port
              (record .rejected s.station.omega .suspect) c.counted)))
  ∧ ∀ ds : List Int, ds ≠ [] →
    adoptionMean ds = roundDiv ds.sum ds.length
    ∧ ∃ high ∈ ds, ∃ low ∈ ds, spread ds = high - low ∧ ∀ x ∈ ds, low ≤ x ∧ x ≤ high

/-- R157, R172, R178, R202: READ_STATION, READ_TIME and READ_ROUND are allowed to every port in every power state, report the
record as it stands, and change nothing (the order of the clock's fields is log entry 9). READ_STATUS reports the state as it
stands in 14 bytes, the requesting port's notice set last, and empties that set; the other ports' sets are not touched. -/
def Obligations.ReadingReportsTheState : Prop :=
  (∀ (f : Frame) (s : State), f.complete = true → (portRecord s f.port).replies.length < 8 →
    (f.body = [] → exec (.readStation f) s = .next (answered s f (stationBody s.station)))
    ∧ (f.body = [] → exec (.readTime f) s = .next (answered s f
        (u8 s.clock.year ++ u8 s.clock.month ++ u8 s.clock.day ++ u8 s.clock.weekday ++ u8 s.clock.hour
          ++ u8 s.clock.minute ++ u8 s.clock.second ++ u16 s.clock.sub ++ [if s.clock.valid then 0x01#8 else 0x00#8])))
    ∧ (f.body.length = 1 → 3 < byteAt f.body 0 → exec (.readRound f) s = .next (refused s f .badValue))
    ∧ (∀ n : RoundNo, f.body.length = 1 → byteAt f.body 0 = n.val →
        exec (.readRound f) s = .next (answered s f (roundBody (roundAt s n) (outstanding s n)))))
  ∧ ∀ (f : Frame) (s : State), f.complete = true → f.body = [] → (portRecord s f.port).replies.length < 8 →
    ∃ t, exec (.readStatus f) s = .next (appendReply t f.port (doneReply f.tag .ok (statusBody s f.port)))
      ∧ t = setPort s f.port { portRecord s f.port with notices := 0#10, out := bytesOut f 0x5A#8 }
      ∧ statusBody s f.port = [powerByte s.power, orientationByte s.station.state, driveByte s.drive, faultByte s.drive,
          BitVec.ofNat 8 (occupancy s), ownerByte s.track, trackByte s.track, grantByte s.grant.track,
          if s.clock.valid then 0x01#8 else 0x00#8, BitVec.ofNat 8 (openCount s f.port),
          BitVec.ofNat 8 (portRecord s f.port).held.length, modeByte (portRecord s f.port).mode]
        ++ u16 (portRecord s f.port).notices.toNat

/-- R170, R171: SET_TIME takes a possible date and time with sub-second count 0, makes the clock VALID, and raises no
tick and no boundary; an impossible date is BAD_VALUE. ALIGN_MINUTE goes to the nearest whole minute with the carries of a
count, through hour, day, month and year, raises neither, and is refused while the clock is UNSET; out of year 99 it leaves
the clock UNSET and tells every port (the bodies are those of log entry 9). -/
def Obligations.ClockIsSetWithoutTick : Prop :=
  ∀ (f : Frame) (s : State),
    (MayAsk s f (.group .clock) [7] →
      ((clockNamed f).ok = true → exec (.setTime f) s = .next (appendReply { taken s f with clock := clockNamed f } f.port
          (doneReply f.tag .ok (clockBody (clockNamed f) ++ yesNo s.clock.valid))))
      ∧ ((clockNamed f).ok = false → exec (.setTime f) s = .next (refused s f .badValue)))
    ∧ (MayAsk s f (.group .clock) [0] →
      (s.clock.valid = false → exec (.alignMinute f) s = .next (refused s f .clockUnset))
      ∧ (s.clock.valid = true → s.clock.second < 30 →
          exec (.alignMinute f) s = .next (appendReply { taken s f with clock := { s.clock with second := 0, sub := 0 } }
            f.port (doneReply f.tag .ok (clockBody { s.clock with second := 0, sub := 0 }))))
      ∧ (s.clock.valid = true → s.clock.ok = true → 30 ≤ s.clock.second →
          let c := minuteAfter s.clock
          (¬ LastMinute s.clock → exec (.alignMinute f) s = .next (appendReply { taken s f with clock := c } f.port
            (doneReply f.tag .ok (clockBody c))))
          ∧ (LastMinute s.clock → exec (.alignMinute f) s = .next (appendReply
              (notifyAll { taken s f with clock := c } .clockUnset) f.port (doneReply f.tag .ok (clockBody c))))))

/-! ### Rounds -/

/-- R176, R177: SET_ROUND replaces the specification of a round that is not RUNNING, disarms an ARMED one whose match becomes
none, keeps the counters, the cursor and the started epoch, and answers with the record; RUNNING gives BUSY. ARM_ROUND with
the clock UNSET gives CLOCK_UNSET, with a match of none BAD_VALUE; DISARMED becomes ARMED, and waits for the next second
boundary that matches, so that a boundary already recorded (log entry 2) does not fire it; ARMED and RUNNING not stopping are
answered and unchanged; RUNNING and stopping is refused BUSY. Each DONE record carries the round's record as it then stands. -/
def Obligations.RoundsAreSetAndArmed : Prop :=
  (∀ (f : Frame) (s : State) (x : RoundFields), MayAsk s f (.group .round) [9] → roundFieldsOf f.body = some x →
    ((roundAt s x.round).state = .running → exec (.setRound f) s = .next (refused s f .busy))
    ∧ ((roundAt s x.round).state ≠ .running →
        let r : Round := { roundAt s x.round with
          matching := x.matching, reportPort := x.reportPort, level := x.level, range := x.range,
          state := if x.matching = .never then .disarmed else (roundAt s x.round).state }
        exec (.setRound f) s = .next (appendReply (putRound (taken s f) x.round r) f.port
          (doneReply f.tag .ok (roundBody r (outstanding s x.round))))))
  ∧ (∀ (f : Frame) (s : State) (n : RoundNo), MayAsk s f (.group .round) [1] → byteAt f.body 0 = n.val →
    let r := roundAt s n
    (s.clock.valid = false → exec (.armRound f) s = .next (refused s f .clockUnset))
    ∧ (s.clock.valid = true → r.matching = .never → exec (.armRound f) s = .next (refused s f .badValue))
    ∧ (s.clock.valid = true → r.matching ≠ .never →
      (r.state = .disarmed → exec (.armRound f) s = .next (appendReply
          (putRound (passed (taken s f) n) n { r with state := .armed }) f.port
          (doneReply f.tag .ok (roundBody { r with state := .armed } (outstanding s n)))))
      ∧ (r.state = .armed ∨ (r.state = .running ∧ r.stopping = false) →
          exec (.armRound f) s = .next (answered s f (roundBody r (outstanding s n))))
      ∧ (r.state = .running → r.stopping = true → exec (.armRound f) s = .next (refused s f .busy))))
  ∧ ∀ (s : State) (n : RoundNo), n ∉ (passed s n).untested ∧ (∀ m, m ≠ n → (m ∈ (passed s n).untested ↔ m ∈ s.untested))
    ∧ (n ∉ s.untested → exec (.roundFire n) s = .next s)

/-- R184: DISARM_ROUND is answered DONE OK in every state; it disarms an ARMED round; it makes a running one stopping,
with its unvisited members and its waiting aims counted skipped, those aims' slots freed and the cursor at 128, and the
end test follows the record. -/
def Obligations.DisarmStopsTheRun : Prop :=
  ∀ (f : Frame) (s : State) (n : RoundNo), MayAsk s f (.group .round) [1] → byteAt f.body 0 = n.val →
    let r := roundAt s n
    (r.state = .disarmed ∨ (r.state = .running ∧ r.stopping = true) → exec (.disarmRound f) s = .next (answered s f []))
    ∧ (r.state = .armed → exec (.disarmRound f) s = .next (appendReply
        (putRound (taken s f) n { r with state := .disarmed }) f.port (doneReply f.tag .ok [])))
    ∧ (r.state = .running → r.stopping = false →
        ∃ t, exec (.disarmRound f) s = .next (afterEvent (appendReply t f.port (doneReply f.tag .ok [])))
          ∧ t = { taken s f with slots := t.slots, rounds := t.rounds, track := t.track }
          ∧ roundAt t n = stoppedRound s n
          ∧ (∀ m, m ≠ n → roundAt t m = roundAt s m)
          ∧ ∀ i, slotAt t i = (slotAt s i).filter (fun a => !waitingAim n a))

/-- R180, R182, R69: a round is fed while it runs, is not stopping, has its cursor below 128 and fewer than four aims
outstanding, and the queue holds at most 12 aims. A feeding step places an aim at the first member at or after the cursor and
leaves the cursor behind it, or brings the cursor to 128. Steps follow one another until the conditions fail; then a run with
its cursor at 128 and no aim outstanding ends: the round returns to ARMED, or to DISARMED where it was stopping, and the
report port gets the notice and the summary, which replaces an older held one of the round. The rounds are served 0 to 3. -/
def Obligations.RoundsAreFedAndEnd : Prop :=
  ∀ (s : State) (n : RoundNo),
    let r := roundAt s n
    (mayFeed s n = true ↔ r.state = .running ∧ r.stopping = false ∧ r.cursor < 128 ∧ outstanding s n < 4
      ∧ occupancy s ≤ 12)
    ∧ (∀ q e, r.cursor ≤ q → q < 128 → MemberAt s n q e → (∀ p x, r.cursor ≤ p → p < q → ¬ MemberAt s n p x) → SlotFree s →
        ∃ i, slotAt s i = none
          ∧ feedStep s n = enterQueued (putRound s n { r with cursor := q + 1 }) i (roundAim r n e.id))
    ∧ ((∀ q e, r.cursor ≤ q → q < 128 → ¬ MemberAt s n q e) → feedStep s n = putRound s n { r with cursor := 128 })
    ∧ (∃ k u, k ≤ 5 ∧ FedBy n k s u ∧ mayFeed u n = false
        ∧ (RunOver u n → serveRound s n = endedRun u n) ∧ (¬ RunOver u n → serveRound s n = u))
    ∧ serveRounds s = serveRound (serveRound (serveRound (serveRound s 0) 1) 2) 3

/-! ### The drive, rest and the port's own requests -/

/-- R97, R189, R190: CLEAR_FAULT takes the drive from FAULT to HOLDING at the current positions and changes nothing in
any other state; REST enters REST only from an idle RUN, with its record before the RESTING notices, and is answered with
the power state (in REST, where nothing changes, log entry 9); without the PART permission both are refused. -/
def Obligations.ClearFaultAndRest : Prop :=
  ∀ (f : Frame) (s : State),
    (Denied s f (.group .part) [0] → exec (.clearFault f) s = .next (refused s f .notPermitted)
      ∧ exec (.rest f) s = .next (refused s f .notPermitted))
    ∧ (MayAsk s f (.group .part) [0] →
    (∀ cause, s.drive = .fault cause → exec (.clearFault f) s = .next (afterEvent (appendReply
        { taken s f with drive := .holding { h := s.encoder.h, v := s.encoder.v } } f.port (doneReply f.tag .ok []))))
    ∧ ((∀ cause, s.drive ≠ .fault cause) → exec (.clearFault f) s = .next (answered s f []))
    ∧ (s.power = .rest → exec (.rest f) s = .next (answered s f [0x00#8]))
    ∧ (∀ d causes, s.power = .waking d causes → exec (.rest f) s = .next (refused s f .busy))
    ∧ (∀ d, s.power = .run d → isIdle s = false → exec (.rest f) s = .next (refused s f .busy))
    ∧ (∀ d, s.power = .run d → isIdle s = true → exec (.rest f) s = .next (notifyAll (appendReply
        { taken s f with power := .rest, drive := .off, distance := none } f.port (doneReply f.tag .ok [0x00#8]))
        .resting)))

/-- R203: SET_ATTENTION_MODE changes the mode before its record is appended, and a pulse ends at its time; under LEVEL
the line is asserted exactly while a record, a notice or a fix waits. -/
def Obligations.AttentionFollowsTheMode : Prop :=
  (∀ (f : Frame) (s : State) (m : AttentionMode), MayAsk s f .always [1] → modeOf (byteAt f.body 0) = some m →
    exec (.setAttentionMode f) s = .next (appendReply
      (setPort s f.port { portRecord s f.port with mode := m, pulse := none, out := bytesOut f 0x5A#8 })
      f.port (doneReply f.tag .ok [])))
  ∧ (∀ (p : Port) (d : Nat) (s : State), (portRecord s p).pulse = some d → Arrives s d →
      exec (.attentionPulseEnd p) s = .next (setPort (later s d) p { portRecord s p with pulse := none }))
  ∧ ∀ q : PortRecord,
      (q.mode = .level → (attentionAsserted q = true ↔ q.replies ≠ [] ∨ q.notices ≠ 0#10 ∨ q.fix ≠ none))
      ∧ (q.mode = .pulse → (attentionAsserted q = true ↔ q.pulse ≠ none))

/-- R207, R62, R82, R86, R127, R148, R151: PORT_RESET is taken however full the queue; before what follows, the port's queue, held list,
notices, fix slot and claims are empty, its mode is LEVEL, its aims and its track are gone and nothing of it counts as
open; other ports' records and claims and the permission set and levels of the port are as they were. An ACTIVE aim of the
port is aborted: the drive stopped, the attempt and the grant's active aim gone, its distance request abandoned; without one
these stay as they are, but for what the ending of the port's own track does to the axes and to its request. Of the port's
round aims the DONE_HELD are removed and the others kept, its check aims and the other ports' aims are kept. -/
def Obligations.PortResetClearsThePort : Prop :=
  ∀ (f : Frame) (s : State), f.complete = true → f.body = [] →
    ∃ t, exec (.portReset f) s = .next (afterEvent t)
      ∧ (portRecord t f.port).replies = [] ∧ (portRecord t f.port).held = [] ∧ (portRecord t f.port).notices = 0#10
      ∧ (portRecord t f.port).fix = none ∧ (portRecord t f.port).overrun = 0 ∧ (portRecord t f.port).mode = .level
      ∧ (portRecord t f.port).permissions = (portRecord s f.port).permissions
      ∧ (portRecord t f.port).defaultLevel = (portRecord s f.port).defaultLevel
      ∧ (portRecord t f.port).ceiling = (portRecord s f.port).ceiling
      ∧ (portRecord t f.port).out = bytesOut f 0x5A#8
      ∧ claim t f.port = { reservation := none, wait := none } ∧ openCount t f.port = 0
      ∧ (∀ i a, slotAt t i = some a → slotAt s i = some a ∧ ¬ (a.origin = .port ∧ a.port = f.port))
      ∧ (∀ i a, slotAt s i = some a →
          (a.port ≠ f.port ∨ a.origin = .check → slotAt t i = some a)
          ∧ (a.port = f.port → a.origin = .port → slotAt t i = none)
          ∧ ∀ n, a.port = f.port → a.origin = .round n →
              (∀ r, a.state = .doneHeld r → slotAt t i = none) ∧ ((∀ r, a.state ≠ .doneHeld r) → slotAt t i = some a))
      ∧ (let active : Prop := ∃ i a, slotAt s i = some a ∧ a.origin = .port ∧ a.port = f.port ∧ a.state = .active
        let tracks : Prop := ∃ k, s.track = some k ∧ k.owner = f.port
        (active → t.attempt = none ∧ t.grant.active = none ∧ t.drive = stoppedDrive s
            ∧ (tracks → t.distance = abandonedBy .track (abandonedBy .acquisition s.distance))
            ∧ (¬ tracks → t.distance = abandonedBy .acquisition s.distance))
        ∧ (¬ active → t.attempt = s.attempt ∧ t.grant.active = s.grant.active
            ∧ (tracks → t.drive = trackStopped s ∧ t.distance = abandonedBy .track s.distance)
            ∧ (¬ tracks → t.drive = s.drive ∧ t.distance = s.distance))
        ∧ (tracks → t.track = none ∧ t.grant.track = .absent)
        ∧ (¬ tracks → t.grant.track = s.grant.track
            ∧ ∃ waiting : Track → Bool, t.track = s.track.map (fun k => { k with aimsWaiting := waiting k })))
      ∧ (∀ k, t.track = some k → k.owner ≠ f.port)
      ∧ (∀ p, p ≠ f.port → portRecord t p = portRecord s p ∧ claim t p = claim s p)
      ∧ t.sets = s.sets ∧ t.clock = s.clock ∧ t.rounds = s.rounds ∧ t.power = s.power ∧ t.sequence = s.sequence
      ∧ t.station.omega = s.station.omega ∧ t.station.state = s.station.state ∧ t.settings = s.settings

/-- R188, R204, R205, R206: the setup requests replace the permission set of port B or C, a port's levels with a default above
the ceiling lowered to it, and the ten parameters clamped into their ranges, and answer with the values applied. A change of
the idle rest time in RUN, with the idle deadline present or the part idle, makes the deadline anew from this moment, absent
for 0; without such a change, outside RUN and in a part that is not idle it stays as it is. -/
def Obligations.SetupRequestsApply : Prop :=
  ∀ (f : Frame) (s : State),
    (∀ p, MayAsk s f .setup [2] → p ≠ .a → portOf (byteAt f.body 0) = some p →
      exec (.setPermissions f) s = .next (appendReply
        (modPort (taken s f) p (fun q => { q with permissions := BitVec.ofNat 8 (byteAt f.body 1) })) f.port
        (doneReply f.tag .ok [BitVec.ofNat 8 (byteAt f.body 1)])))
    ∧ (∀ p d c, MayAsk s f .setup [3] → portOf (byteAt f.body 0) = some p → levelOf (byteAt f.body 1) = some d →
      levelOf (byteAt f.body 2) = some c →
      let applied := if c.rank < d.rank then c else d
      exec (.setPortLevels f) s = .next (appendReply
        (modPort (taken s f) p (fun q => { q with defaultLevel := applied, ceiling := c })) f.port
        (doneReply f.tag .ok (u8 applied.code ++ u8 c.code))))
    ∧ (MayAsk s f .setup [20] →
      let c := configured f.body s.settings
      exec (.setConfig f) s = .next (appendReply
        (replaceIdleDeadline { taken s f with settings := c } s.settings.idleRest) f.port
        (doneReply f.tag .ok (settingsBody c))))
    ∧ (∀ b c, c.ok = true → (configured b c).ok = true)
    ∧ ∀ before : Nat,
      ((∀ d, s.power ≠ .run d) → replaceIdleDeadline s before = s)
      ∧ (s.settings.idleRest = before → replaceIdleDeadline s before = s)
      ∧ (s.power = .run none → isIdle s = false → replaceIdleDeadline s before = s)
      ∧ (∀ d, s.power = .run d → s.settings.idleRest ≠ before → d ≠ none ∨ isIdle s = true →
          replaceIdleDeadline s before = { s with
            power := .run (if s.settings.idleRest = 0 then none else some (s.elapsed + 640000 * s.settings.idleRest)) })

/-! ### The partners -/

/-- R88, R92, R93, R94, R95, R96, R107, R128, R132, R136, R140: readings become the current positions; a move arrives when
both axes stand within 20 cu of the targets and at rest, and holds the targets: an attempt in TURNING comes to SENSING, a
track's acquire phase TURNING to SENSING, and an arrival in any other phase or state changes nothing more. A stopping move
ends at rest and holds the readings; a held axis more than 2,000 cu away is DISPLACED, and a move past its deadline is
STALLED: FAULT. A fault is told to every port; it ends an attempt in flight in any phase DRIVE_FAULT, final for the aim,
with a request of the attempt abandoned, and then a track that holds the axes, suspended or not. -/
def Obligations.DriveTakesReadings : Prop :=
  ∀ (e : Encoder) (s : State), e.wf = true →
    (∀ m, s.drive = .moving m → m.stopping = false → InPlace e m.target →
      let held : State := { s with encoder := e, drive := .holding m.target }
      (m.commander = none → exec (.encoderReadings e) s = .next held)
      ∧ (∀ t, m.commander = some .acquisition → s.attempt = some t →
          (t.phase = .turning → exec (.encoderReadings e) s
            = .next { held with attempt := some { t with phase := .sensing, reachedSensing := true } })
          ∧ (t.phase ≠ .turning → exec (.encoderReadings e) s = .next held))
      ∧ ∀ t, m.commander = some .track → s.track = some t →
          (t.state = .acquiring → t.acquirePhase = some .turning → exec (.encoderReadings e) s
            = .next { held with track := some { t with acquirePhase := some .sensing } })
          ∧ (t.state ≠ .acquiring ∨ t.acquirePhase ≠ some .turning → exec (.encoderReadings e) s = .next held))
    ∧ (∀ m, s.drive = .moving m → m.stopping = false →
      20 < (dev e.h m.target.h).natAbs ∨ 20 < (dev e.v m.target.v).natAbs ∨ e.restH = false ∨ e.restV = false →
      exec (.encoderReadings e) s = .next { s with encoder := e })
    ∧ (∀ m, s.drive = .moving m → m.stopping = true → e.restH = true → e.restV = true →
      exec (.encoderReadings e) s = .next { s with encoder := e, drive := .holding { h := e.h, v := e.v } })
    ∧ (∀ held, s.drive = .holding held → (dev e.h held.h).natAbs ≤ 2000 → (dev e.v held.v).natAbs ≤ 2000 →
      exec (.encoderReadings e) s = .next { s with encoder := e })
    ∧ (∀ held, s.drive = .holding held → 2000 < (dev e.h held.h).natAbs ∨ 2000 < (dev e.v held.v).natAbs →
      exec (.encoderReadings e) s = .next (enterFault { s with encoder := e } .displaced))
    ∧ (∀ m, s.drive = .moving m → Arrives s m.deadline →
      exec .stallDeadline s = .next (enterFault (later s m.deadline) .stall))
    ∧ ∀ cause,
      let ended := endAttempt (faulted s cause) .driveFault none
      ((∀ b, s.grant.track ≠ .holding b) → enterFault s cause = afterEvent ended)
      ∧ (∀ b, s.grant.track = .holding b → enterFault s cause = afterEvent (endTrack ended (some .driveFault)))
      ∧ (s.attempt = none → ended = faulted s cause)
      ∧ ∀ t a, s.attempt = some t → slotAt s t.slot = some a →
          let u := faulted s cause
          let o := observationOf u t a .driveFault none
          Completes { (if t.reachedSensing then handObservation u a.target o else u) with
              attempt := none, grant := { s.grant with active := none } } t.slot
            (if t.reachedSensing then { a with lastObservation := some o } else a) .driveFault ended

/-- R105, R106, R104, R132: the selection over a frame takes the sightings strong enough; the nearest, the stronger of two as
near and the first listed of two as strong, is selected, or makes the frame ambiguous where another lies within the
separation guard. A frame of any sightings is discarded in TURNING, in RANGING and while a move of the attempt is in flight;
with no attempt and no track; and by a track that does not hold the axes, is set aside, or waits for a move's arrival. -/
def Obligations.FramesAreJudged : Prop :=
  (∀ (strength guard : Nat) (g : List Sighting),
    let seen := g.filter (fun x => strength ≤ x.strength)
    (seen = [] → selectSighting strength guard g = .empty)
    ∧ (seen ≠ [] → ∃ before x after, seen = before ++ x :: after ∧ (∀ y ∈ before, Nearer x y) ∧ (∀ y ∈ after, ¬ Nearer y x)
        ∧ ((∃ y ∈ before ++ after, Close guard x y) → selectSighting strength guard g = .ambiguous x)
        ∧ ((∀ y ∈ before ++ after, ¬ Close guard x y) → selectSighting strength guard g = .selected x)))
  ∧ ∀ (s : State) (g : List Sighting), sightingsWf g = true →
    (∀ t, s.attempt = some t → t.phase = .turning ∨ t.phase = .ranging ∨ (∃ m, s.drive = .moving m) →
      exec (.lockSensorFrame g) s = .next s)
    ∧ (s.attempt = none → s.track = none → exec (.lockSensorFrame g) s = .next s)
    ∧ (∀ t, s.attempt = none → s.track = some t → s.grant.track ≠ .holding false ∨ ¬ TrackLooks s t →
        exec (.lockSensorFrame g) s = .next s)

/-- R108 to R112, R16: an empty frame in SENSING begins a search of the target's window, and one at a search position goes on
from the next; a search goes to the first position inside the band and ends NOT_FOUND when none is left. An ambiguous frame
ends the attempt AMBIGUOUS with the nearest sighting kept. Ring k starts at (k, 0) and goes round the 8k positions at
distance k without repeating one, each a neighbour of the one before; the rings follow one another. -/
def Obligations.SearchWalksTheRings : Prop :=
  (∀ (s : State) (t : Attempt) (g : List Sighting) (held : Pointing), s.attempt = some t → s.drive = .holding held →
    sightingsWf g = true →
    (∀ a window, judged s g = .empty → t.phase = .sensing → slotAt s t.slot = some a → WindowIs s window a.target →
      exec (.lockSensorFrame g) s
        = .next (afterEvent (soughtOn s { t with phase := .searching } (some (ringStart window)))))
    ∧ (∀ c, judged s g = .empty → t.phase = .searching → t.cursor = some c →
      exec (.lockSensorFrame g) s = .next (afterEvent (soughtOn s t (nextCursor c))))
    ∧ (∀ x, judged s g = .ambiguous x → t.phase = .sensing ∨ t.phase = .searching ∨ t.phase = .fine →
      exec (.lockSensorFrame g) s = .next (afterEvent (endAttempt
        { s with attempt := some { t with lastSighting := some (clamped x), cursor := none } } .ambiguous none))))
  ∧ (∀ k : Nat, 1 ≤ k → k ≤ 8 →
    ringPosition k 1 = ((k : Int), 0) ∧ ringPosition k 2 = ((k : Int), 1)
    ∧ (∀ n, 1 ≤ n → n ≤ 8 * k → max (ringPosition k n).1.natAbs (ringPosition k n).2.natAbs = k)
    ∧ (∀ m n, 1 ≤ m → m < n → n ≤ 8 * k → ringPosition k m ≠ ringPosition k n)
    ∧ (∀ n, 1 ≤ n → n < 8 * k → ((ringPosition k (n + 1)).1 - (ringPosition k n).1).natAbs
        + ((ringPosition k (n + 1)).2 - (ringPosition k n).2).natAbs = 1))
  ∧ (∀ c : Cursor,
    (c.index < 8 * c.ring → nextCursor c = some { c with index := c.index + 1 })
    ∧ (8 * c.ring ≤ c.index → c.ring < c.rings → nextCursor c = some { c with ring := c.ring + 1, index := 1 })
    ∧ (8 * c.ring ≤ c.index → c.rings ≤ c.ring → nextCursor c = none))
  ∧ ∀ (centre : Pointing) (zenith : Int) (left : Nat) (c : Cursor), 0 ≤ zenith → zenith < 4000000 →
    let i := (ringPosition c.ring c.index).1
    let j := (ringPosition c.ring c.index).2
    let z := (zenith + j * 1500) % 4000000
    let inside : Prop := if zenith < 2000000 then 250000 ≤ z ∧ z ≤ 1750000 else 2250000 ≤ z ∧ z ≤ 3750000
    (inside → seekPosition centre zenith (left + 1) c = some (c,
      { h := (centre.h + roundDiv (i * 1500 * 65536) ((sineWord zenith).natAbs : Int)) % 4000000,
        v := (centre.v + j * 1500) % 4000000 }))
    ∧ (¬ inside → seekPosition centre zenith (left + 1) c = (nextCursor c).bind (seekPosition centre zenith left))

/-- R113 to R118: a sighting selected in SENSING, at a search position or in FINE is tested against the lock tolerance with
its offsets clamped (log entry 13). Outside it a correction is commanded from the current positions and the latest tilt, the
fifth ending the attempt UNSTEADY; inside it the lock result is formed, and the attempt ends LOCKED, or enters RANGING where
the aim asks for it and sends its request once the record is FREE. Without a usable tilt either ends OUT_OF_LEVEL. The second
empty frame in a row in FINE ends the attempt OBSTRUCTED. -/
def Obligations.FrameLeadsToFine : Prop :=
  ∀ (s : State) (t : Attempt) (g : List Sighting) (held : Pointing), s.attempt = some t → s.drive = .holding held →
    sightingsWf g = true →
    (∀ x, judged s g = .selected x → t.phase = .sensing ∨ t.phase = .searching ∨ t.phase = .fine →
      let y := clamped x
      let f := inFine t y
      (¬ withinLock s y → 4 ≤ f.corrections →
        exec (.lockSensorFrame g) s = .next (afterEvent (endAttempt { s with attempt := some f } .unsteady none)))
      ∧ (withinLock s y ∨ f.corrections < 4 → NoTilt s →
        exec (.lockSensorFrame g) s = .next (afterEvent (endAttempt { s with attempt := some f } .outOfLevel none)))
      ∧ ∀ l tr, s.station.latest = some (.values l tr) →
        let tilt : Tilt := { l := l, t := tr }
        (¬ withinLock s y → f.corrections < 4 → exec (.lockSensorFrame g) s = .next (afterEvent
          (moved { s with attempt := some { f with corrections := f.corrections + 1 } }
            (fineTargets (rawNow s) tilt { x := y.x, y := y.y }).1 .acquisition)))
        ∧ ∀ a, withinLock s y → slotAt s t.slot = some a →
          let locked : Attempt := { f with lock := some (lockedOn s tilt y) }
          let ranging : State := { s with attempt := some { locked with phase := .ranging, corrections := 0, empties := 0 } }
          (a.range = false → exec (.lockSensorFrame g) s
            = .next (afterEvent (endAttempt { s with attempt := some locked } .locked none)))
          ∧ (a.range = true → s.distance = none → exec (.lockSensorFrame g) s = .next (afterEvent (requested ranging)))
          ∧ (a.range = true → s.distance ≠ none → exec (.lockSensorFrame g) s = .next (afterEvent ranging)))
    ∧ (judged s g = .empty → t.phase = .fine →
      (t.empties = 0 → exec (.lockSensorFrame g) s
        = .next (afterEvent { s with attempt := some { t with empties := 1 } }))
      ∧ (1 ≤ t.empties → exec (.lockSensorFrame g) s = .next (afterEvent (endAttempt
          { s with attempt := some { t with empties := t.empties + 1 } } .obstructed none))))

/-- R136 to R140: a selected sighting takes a track that holds the axes into TRACKING, with what it saw last, its anchor, and
a move to the corrected targets, or ends it OUT_OF_LEVEL without a usable tilt. A frame that selects none starts or goes on
with the search of ACQUIRING and of SEARCHING, which ends LOST when no position is left, takes TRACKING to COASTING, and
leaves COASTING as it is. -/
def Obligations.TrackFollowsFrames : Prop :=
  ∀ (s : State) (t : Track) (g : List Sighting), s.attempt = none → s.track = some t → s.grant.track = .holding false →
    sightingsWf g = true → Drivable s → TrackLooks s t →
    (∀ x, judged s g = .selected x →
      (NoTilt s → exec (.lockSensorFrame g) s = .next (afterEvent (endTrack s (some .outOfLevel))))
      ∧ ∀ l tr, s.station.latest = some (.values l tr) → exec (.lockSensorFrame g) s = .next (afterEvent
          (moved { s with track := some (followed s t { l := l, t := tr } x) }
            (fineTargets (rawNow s) { l := l, t := tr } { x := x.x, y := x.y }).1 .track)))
    ∧ ((∀ x, judged s g ≠ .selected x) →
      (t.state = .tracking → exec (.lockSensorFrame g) s = .next (afterEvent { s with
          track := some { t with state := .coasting, coastDeadline := some (s.elapsed + 640 * s.settings.coastTime) } }))
      ∧ (t.state = .coasting → exec (.lockSensorFrame g) s = .next (afterEvent s))
      ∧ (∀ sol, t.state = .acquiring → t.solution = some sol →
          (∀ e, t.acquirePhase = some .sensing → lookup s t.target = some e → exec (.lockSensorFrame g) s
            = .next (afterEvent (trackSought s { t with acquirePhase := some .searching, centreLook := false } sol.raw
                sol.target.v (some (ringStart e.window)))))
          ∧ (∀ c, t.acquirePhase = some .searching → t.cursor = some c → exec (.lockSensorFrame g) s
            = .next (afterEvent (trackSought s t sol.raw sol.target.v (nextCursor c)))))
      ∧ (∀ a c, t.state = .searching → t.anchor = some a → t.cursor = some c →
          (t.centreLook = true → exec (.lockSensorFrame g) s
            = .next (afterEvent (trackSought s { t with centreLook := false } a.raw a.zenith (some c))))
          ∧ (t.centreLook = false → exec (.lockSensorFrame g) s
            = .next (afterEvent (trackSought s t a.raw a.zenith (nextCursor c))))))

/-- R153, R154, R155, R116, R140: a sample becomes the latest; one within range that disturbs a SET station makes it SUSPECT
and tells every port, and any other sample within range changes nothing more. One over range tells every port OUT_OF_LEVEL
unless it follows another; makes a SET station SUSPECT and tells every port; ends an attempt in FINE OUT_OF_LEVEL with its move
stopped, and then a track that holds the axes. -/
def Obligations.TiltSampleIsTested : Prop :=
  (∀ s : State,
    let sampled := { s with station := { s.station with latest := some .overRange } }
    let noticed := if s.station.latest = some .overRange then sampled else notifyAll sampled .outOfLevel
    let tested := if s.station.state = .set
      then notifyAll { noticed with station := { noticed.station with state := .suspect } } .orientationSuspect else noticed
    let ended := if (∃ t, s.attempt = some t ∧ t.phase = .fine)
      then endAttempt { tested with drive := stoppedDrive s } .outOfLevel none else tested
    ((∀ b, s.grant.track ≠ .holding b) → exec (.tiltSample .overRange) s = .next (afterEvent ended))
    ∧ (∀ b, s.grant.track = .holding b →
        exec (.tiltSample .overRange) s = .next (afterEvent (endTrack ended (some .outOfLevel)))))
  ∧ ∀ (l t : Int) (s : State), (TiltSample.values l t).wf = true →
    let sampled := { s with station := { s.station with latest := some (.values l t) } }
    (s.station.state ≠ .set → exec (.tiltSample (.values l t)) s = .next sampled)
    ∧ ∀ r, s.station.state = .set → s.station.reference = some r →
      ((l - r.l).natAbs ≤ s.settings.tiltGuard → (t - r.t).natAbs ≤ s.settings.tiltGuard →
        exec (.tiltSample (.values l t)) s = .next sampled)
      ∧ (s.settings.tiltGuard < (l - r.l).natAbs ∨ s.settings.tiltGuard < (t - r.t).natAbs →
        exec (.tiltSample (.values l t)) s = .next (notifyAll
          { s with station := { s.station with latest := some (.values l t), state := .suspect } } .orientationSuspect))

/-! ### Time -/

/-- R168, R169, R173, R175, R179: a count raises the sub-second count, or carries into the second, and out of year 99 to the
UNSET clock with CLOCK_UNSET to every port; a carry out of second 59 goes through minute, hour, day, month and year; a count
on a multiple of 64 raises a tick and one on 0 a second boundary (the record of both is log entry 2; the mark of a count in
elapsed time is log entry 1). At a boundary an ARMED round that matches starts its run
with zeroed counters and tells its report port, a RUNNING one counts a missed trigger, and no other round changes. -/
def Obligations.CountsAndFirings : Prop :=
  (∀ s : State, s.clock.sub < 1023 → (s.clock.sub + 1) % 64 ≠ 0 →
    exec .clockCount s = .next { s with clock := { s.clock with sub := s.clock.sub + 1 },
                                        elapsed := (s.elapsed / 625 + 1) * 625 })
  ∧ (∀ s : State, s.clock.sub < 1023 → (s.clock.sub + 1) % 64 = 0 →
    let c := { s.clock with sub := s.clock.sub + 1 }
    exec .clockCount s = .next { s with clock := c, elapsed := (s.elapsed / 625 + 1) * 625, tickDue := some c })
  ∧ (∀ (s : State) (w : Nat) (v : Bool), w ≤ 6 →
    s.clock = { year := 99, month := 12, day := 31, weekday := w, hour := 23, minute := 59, second := 59, sub := 1023,
                valid := v } →
    let c : Clock := { year := 0, month := 1, day := 1, weekday := (w + 1) % 7, hour := 0, minute := 0, second := 0,
                       sub := 0, valid := false }
    exec .clockCount s = .next (notifyAll
      { s with clock := c, elapsed := (s.elapsed / 625 + 1) * 625, tickDue := some c, boundary := some c,
               untested := [0, 1, 2, 3] } .clockUnset))
  ∧ (∀ s : State, s.clock.sub = 1023 →
    (s.clock.second < 59 →
      exec .clockCount s = .next (atBoundary s { s.clock with second := s.clock.second + 1, sub := 0 }))
    ∧ (s.clock.ok = true → s.clock.second = 59 → ¬ LastMinute s.clock →
      exec .clockCount s = .next (atBoundary s (minuteAfter s.clock)))
    ∧ (s.clock.ok = true → s.clock.second = 59 → LastMinute s.clock →
      exec .clockCount s = .next (notifyAll (atBoundary s (minuteAfter s.clock)) .clockUnset)))
  ∧ ∀ (n : RoundNo) (c : Clock) (s : State), s.boundary = some c → n ∈ s.untested →
    let tested := passed s n
    let r := roundAt s n
    (matchesAt c r.matching = false ∨ r.state = .disarmed → exec (.roundFire n) s = .next tested)
    ∧ (matchesAt c r.matching = true → r.state = .running →
        exec (.roundFire n) s = .next (putRound tested n { r with missed := min 255 (r.missed + 1) }))
    ∧ (matchesAt c r.matching = true → r.state = .armed →
        exec (.roundFire n) s = .next (afterEvent (leaveIdle (takeWakeCause (notify
          (putRound tested n (firedRound r c)) r.reportPort .roundStarted)
          .round))))

/-- R141, R142, R143, R40: a tick of the track's interval taken in TRACKING or COASTING hands the entry the fix update and
writes the fix to the owner's slot, a filled slot raising both overrun counts; one taken in TRACKING with the range option
sends a measurement request where the record is FREE; a tick in another state writes nothing. -/
def Obligations.TickWritesTheFix : Prop :=
  ∀ (s : State) (t : Track) (c : Clock), s.tickDue = some c → s.track = some t → onBoundary c t.interval = true →
    (t.state = .acquiring ∨ t.state = .searching ∨ t.state = .suspended →
      exec .trackTick s = .next { s with tickDue := none })
    ∧ ∀ (st : FixState) (seen : LastSeen) (way : Fin 4) (e : Entry),
      (t.state = .tracking ∧ st = .tracking) ∨ (t.state = .coasting ∧ st = .coasting) → t.lastSeen = some seen →
      locate s t.target = some (way, e) →
      let x := tickFix t seen c st
      let filled := (portRecord s t.owner).fix.isSome
      ∃ u, exec .trackTick s = .next u
        ∧ u.track = some (trackAfterFix t x filled)
        ∧ (portRecord u t.owner).fix = some x
        ∧ (portRecord u t.owner).overrun
            = (if filled then min 255 ((portRecord s t.owner).overrun + 1) else (portRecord s t.owner).overrun)
        ∧ (setAt u (setOf t.target)).ways[way] = some { e with lastObs := some (fixSeen x) }
        ∧ (∀ p, (claim s p).reservation = some t.target → claim u p = { reservation := none, wait := none })
        ∧ u.tickDue = none ∧ u.slots = s.slots ∧ u.drive = s.drive ∧ u.clock = s.clock
        ∧ u.distance = (if t.range = true ∧ st = .tracking ∧ s.distance = none then
            some { requester := .track, abandoned := false, expiry := s.elapsed + 640 * 4000, number := s.requests }
          else s.distance)

/-- R118, R119, R120, R143: an answer or the expiry of the request in flight makes the record FREE; an abandoned request's
answer is discarded; the track keeps a distance in 10..30,000,000 and nothing of any other answer; an attempt in RANGING ends
LOCKED with such a distance, OBSTRUCTED when interrupted and LOCKED_NO_RANGE otherwise; an attempt in RANGING that waits for
the record sends its request as it becomes FREE; an answer to no request in flight changes nothing (the request an answer
answers is log entry 12). -/
def Obligations.DistanceRequestEnds : Prop :=
  (∀ (s : State) (n : Nat) (a : DistanceAnswer), s.distance = none → exec (.distanceAnswer n a) s = .next s)
  ∧ ∀ (s : State) (d : DistanceRequest) (a : DistanceAnswer), s.distance = some d →
    (∀ t, d.abandoned = false → d.requester = .acquisition → s.attempt = some t → t.phase = .ranging →
      let free : State := { s with distance := none }
      (∀ m, 10 ≤ m → m ≤ 30000000 →
        exec (.distanceAnswer d.number (.distance m)) s = .next (afterEvent (endAttempt free .locked (some m))))
      ∧ (∀ m, m < 10 ∨ 30000000 < m →
        exec (.distanceAnswer d.number (.distance m)) s = .next (afterEvent (endAttempt free .lockedNoRange none)))
      ∧ exec (.distanceAnswer d.number .noReturn) s = .next (afterEvent (endAttempt free .lockedNoRange none))
      ∧ exec (.distanceAnswer d.number .interrupted) s = .next (afterEvent (endAttempt free .obstructed none))
      ∧ (Arrives s d.expiry → exec .distanceExpiry s
        = .next (afterEvent (endAttempt { later s d.expiry with distance := none } .lockedNoRange none))))
    ∧ (∀ n, n ≠ d.number → exec (.distanceAnswer n a) s = .next s)
    ∧ (d.abandoned = true → ∀ u, Freed s u → exec (.distanceAnswer d.number a) s = .next (afterEvent u))
    ∧ (∀ t : Track, d.abandoned = false → d.requester = .track → s.track = some t →
        (∀ m, 10 ≤ m → m ≤ 30000000 → ∀ u, Freed { s with track := some { t with latestDistance := some m } } u →
          exec (.distanceAnswer d.number (.distance m)) s = .next (afterEvent u))
        ∧ ∀ u, Freed s u →
          (∀ m, m < 10 ∨ 30000000 < m → exec (.distanceAnswer d.number (.distance m)) s = .next (afterEvent u))
          ∧ exec (.distanceAnswer d.number .noReturn) s = .next (afterEvent u)
          ∧ exec (.distanceAnswer d.number .interrupted) s = .next (afterEvent u))
    ∧ (d.abandoned = true ∨ d.requester = .track ∨ NotRanging s → Arrives s d.expiry →
        ∀ u, Freed (later s d.expiry) u → exec .distanceExpiry s = .next (afterEvent u))

/-- R77, R138, R139, R146: at its due time a RETRY_WAIT aim becomes QUEUED; at the coast deadline a COASTING track begins
SEARCHING about its anchor, a move in flight or none, and ends LOST where no position lies inside the band; the hold deadline
ends a track that holds the axes HOLD_EXPIRED while an aim waits, and otherwise the next aim that enters QUEUED does. That the
deadline has arrived is kept in the item holdPassed (log entry 21). None of them acts before its time. -/
def Obligations.WorkDeadlinesArrive : Prop :=
  (∀ (s : State) (i : SlotNo) (a : Aim) (due : Nat), slotAt s i = some a → a.state = .retryWait due →
    (Arrives s due →
      exec (.retryDue i) s = .next (afterEvent (enterQueued (later s due) i a)))
    ∧ (¬ Arrives s due → exec (.retryDue i) s = .next s))
  ∧ (∀ (s : State) (t : Track) (d : Nat) (a : Anchor) (e : Entry),
      s.track = some t → t.state = .coasting → t.coastDeadline = some d → t.anchor = some a →
      lookup s t.target = some e → Drivable s →
      (Arrives s d → exec .coastDeadline s = .next (afterEvent (trackSought (later s d)
        { t with state := .searching, coastDeadline := none, centreLook := false } a.raw a.zenith
        (some (ringStart e.window)))))
      ∧ (¬ Arrives s d → exec .coastDeadline s = .next s))
  ∧ (∀ (s : State) (t : Track) (d : Nat), s.track = some t → t.holdDeadline = some d → t.holdPassed = false →
      let past : State := { later s d with track := some { t with holdPassed := true } }
      (Arrives s d → t.aimsWaiting = false → exec .holdDeadline s = .next (afterEvent past))
      ∧ (∀ b, Arrives s d → t.aimsWaiting = true → s.grant.track = .holding b →
          exec .holdDeadline s = .next (afterEvent (endTrack past (some .holdExpired))))
      ∧ (¬ Arrives s d → exec .holdDeadline s = .next s))
  ∧ ∀ (s : State) (t : Track) (b : Bool) (i : SlotNo) (a : Aim), s.track = some t → t.holdPassed = true →
      s.grant.track = .holding b →
      let queued := putSlot s i (some { a with state := .queued, sequence := s.sequence })
      enterQueued s i a = endTrack (leaveIdle (takeWakeCause { queued with sequence := s.sequence + 1#32 } .queue))
        (some .holdExpired)

/-- R188, R190, R193: settle end returns a wake begun by the line alone to REST when the line is released, and otherwise
brings the part to RUN with the drive holding the positions read and WOKE to every port; the idle deadline of an idle part
enters REST and tells every port. -/
def Obligations.SettleAndIdleDeadlines : Prop :=
  (∀ (s : State) (d : Nat) (causes : Mask 6), s.power = .waking d causes → s.drive = .settling →
    Arrives s d →
    let now := later s d
    (causes = 0b100000#6 → s.wakeLine = false →
      exec .settleDeadline s = .next { now with power := .rest, drive := .off })
    ∧ (causes ≠ 0b100000#6 ∨ s.wakeLine = true →
      exec .settleDeadline s = .next (afterEvent (notifyAll
        { now with power := .run none, drive := .holding { h := s.encoder.h, v := s.encoder.v } } .woke))))
  ∧ ∀ (s : State) (d : Nat), s.power = .run (some d) → Arrives s d →
    (isIdle s = true → exec .idleDeadline s = .next (notifyAll
      { later s d with power := .rest, drive := .off, distance := none } .resting))
    ∧ (isIdle s = false → exec .idleDeadline s = .next s)

/-! ### What every step keeps -/

/-- The power-on state is safe. -/
def Obligations.SafeAtPowerOn : Prop := Safe State.reset

/-- R23, R27, R29: every step keeps the table in order. -/
def Obligations.EveryStepKeepsTheTable : Prop := Kept TableOk

/-- R70, R132: every step keeps the grant, the slots, the attempt and the track in agreement. -/
def Obligations.EveryStepKeepsTheGrant : Prop := Kept (fun s => GrantOk s ∧ TrackOk s)

/-- R98, R187: every step keeps the drive and the power state in agreement. -/
def Obligations.EveryStepKeepsDriveAndPower : Prop := Kept PowerOk

/-- R200, R205, section 9.1, R88, R152, R206: every step keeps at most 8 records in a queue, no default level above its
ceiling, and the clock, the parameters, the encoder positions and ω in range. -/
def Obligations.EveryStepKeepsTheBounds : Prop := Kept (fun s => PortsOk s ∧ RangesOk s)
end

