-- ==== Sys2Proof/Laws/State.lean ====
section
/-! SUPPORT. What an update of the state leaves as it was, and what it writes. -/

namespace Sys2Proof.Machine

/-! ### Updates of one field: every other field is kept -/

/-- `modPort` writes `ports` alone. -/
@[simp] theorem modPort_keeps (s : State) (p : Port) (f : PortRecord → PortRecord) :
    (modPort s p f).pending = s.pending ∧ (modPort s p f).elapsed = s.elapsed ∧ (modPort s p f).clock = s.clock ∧
    (modPort s p f).tickDue = s.tickDue ∧ (modPort s p f).boundary = s.boundary ∧
    (modPort s p f).untested = s.untested ∧ (modPort s p f).sets = s.sets ∧ (modPort s p f).claims = s.claims ∧
    (modPort s p f).slots = s.slots ∧ (modPort s p f).grant = s.grant ∧ (modPort s p f).sequence = s.sequence ∧
    (modPort s p f).drive = s.drive ∧ (modPort s p f).encoder = s.encoder ∧ (modPort s p f).attempt = s.attempt ∧
    (modPort s p f).distance = s.distance ∧ (modPort s p f).requests = s.requests ∧ (modPort s p f).track = s.track ∧
    (modPort s p f).station = s.station ∧ (modPort s p f).rounds = s.rounds ∧ (modPort s p f).power = s.power ∧
    (modPort s p f).wakeLine = s.wakeLine ∧ (modPort s p f).settings = s.settings ∧
    (modPort s p f).powerOns = s.powerOns :=
  ⟨rfl, rfl, rfl, rfl, rfl, rfl, rfl, rfl, rfl, rfl, rfl, rfl, rfl, rfl, rfl, rfl, rfl, rfl, rfl, rfl, rfl, rfl, rfl⟩

/-- `putClaim` writes `claims` alone. -/
@[simp] theorem putClaim_keeps (s : State) (p : Port) (c : Claim) :
    (putClaim s p c).pending = s.pending ∧ (putClaim s p c).elapsed = s.elapsed ∧ (putClaim s p c).clock = s.clock ∧
    (putClaim s p c).tickDue = s.tickDue ∧ (putClaim s p c).boundary = s.boundary ∧
    (putClaim s p c).untested = s.untested ∧ (putClaim s p c).sets = s.sets ∧ (putClaim s p c).ports = s.ports ∧
    (putClaim s p c).slots = s.slots ∧ (putClaim s p c).grant = s.grant ∧ (putClaim s p c).sequence = s.sequence ∧
    (putClaim s p c).drive = s.drive ∧ (putClaim s p c).encoder = s.encoder ∧ (putClaim s p c).attempt = s.attempt ∧
    (putClaim s p c).distance = s.distance ∧ (putClaim s p c).requests = s.requests ∧
    (putClaim s p c).track = s.track ∧ (putClaim s p c).station = s.station ∧ (putClaim s p c).rounds = s.rounds ∧
    (putClaim s p c).power = s.power ∧ (putClaim s p c).wakeLine = s.wakeLine ∧
    (putClaim s p c).settings = s.settings ∧ (putClaim s p c).powerOns = s.powerOns :=
  ⟨rfl, rfl, rfl, rfl, rfl, rfl, rfl, rfl, rfl, rfl, rfl, rfl, rfl, rfl, rfl, rfl, rfl, rfl, rfl, rfl, rfl, rfl, rfl⟩

/-- `putSet` writes `sets` alone. -/
@[simp] theorem putSet_keeps (s : State) (k : Fin 32) (t : TableSet) :
    (putSet s k t).pending = s.pending ∧ (putSet s k t).elapsed = s.elapsed ∧ (putSet s k t).clock = s.clock ∧
    (putSet s k t).tickDue = s.tickDue ∧ (putSet s k t).boundary = s.boundary ∧
    (putSet s k t).untested = s.untested ∧ (putSet s k t).ports = s.ports ∧ (putSet s k t).claims = s.claims ∧
    (putSet s k t).slots = s.slots ∧ (putSet s k t).grant = s.grant ∧ (putSet s k t).sequence = s.sequence ∧
    (putSet s k t).drive = s.drive ∧ (putSet s k t).encoder = s.encoder ∧ (putSet s k t).attempt = s.attempt ∧
    (putSet s k t).distance = s.distance ∧ (putSet s k t).requests = s.requests ∧ (putSet s k t).track = s.track ∧
    (putSet s k t).station = s.station ∧ (putSet s k t).rounds = s.rounds ∧ (putSet s k t).power = s.power ∧
    (putSet s k t).wakeLine = s.wakeLine ∧ (putSet s k t).settings = s.settings ∧
    (putSet s k t).powerOns = s.powerOns :=
  ⟨rfl, rfl, rfl, rfl, rfl, rfl, rfl, rfl, rfl, rfl, rfl, rfl, rfl, rfl, rfl, rfl, rfl, rfl, rfl, rfl, rfl, rfl, rfl⟩

/-- `putRound` writes `rounds` alone. -/
@[simp] theorem putRound_keeps (s : State) (n : RoundNo) (r : Round) :
    (putRound s n r).pending = s.pending ∧ (putRound s n r).elapsed = s.elapsed ∧ (putRound s n r).clock = s.clock ∧
    (putRound s n r).tickDue = s.tickDue ∧ (putRound s n r).boundary = s.boundary ∧
    (putRound s n r).untested = s.untested ∧ (putRound s n r).sets = s.sets ∧ (putRound s n r).ports = s.ports ∧
    (putRound s n r).claims = s.claims ∧ (putRound s n r).slots = s.slots ∧ (putRound s n r).grant = s.grant ∧
    (putRound s n r).sequence = s.sequence ∧ (putRound s n r).drive = s.drive ∧
    (putRound s n r).encoder = s.encoder ∧ (putRound s n r).attempt = s.attempt ∧
    (putRound s n r).distance = s.distance ∧ (putRound s n r).requests = s.requests ∧
    (putRound s n r).track = s.track ∧ (putRound s n r).station = s.station ∧ (putRound s n r).power = s.power ∧
    (putRound s n r).wakeLine = s.wakeLine ∧ (putRound s n r).settings = s.settings ∧
    (putRound s n r).powerOns = s.powerOns :=
  ⟨rfl, rfl, rfl, rfl, rfl, rfl, rfl, rfl, rfl, rfl, rfl, rfl, rfl, rfl, rfl, rfl, rfl, rfl, rfl, rfl, rfl, rfl, rfl⟩

/-- `passBoundary` writes `untested` alone. -/
@[simp] theorem passBoundary_keeps (s : State) (n : RoundNo) :
    (passBoundary s n).pending = s.pending ∧ (passBoundary s n).elapsed = s.elapsed ∧
    (passBoundary s n).clock = s.clock ∧ (passBoundary s n).tickDue = s.tickDue ∧
    (passBoundary s n).boundary = s.boundary ∧ (passBoundary s n).sets = s.sets ∧ (passBoundary s n).ports = s.ports ∧
    (passBoundary s n).claims = s.claims ∧ (passBoundary s n).slots = s.slots ∧ (passBoundary s n).grant = s.grant ∧
    (passBoundary s n).sequence = s.sequence ∧ (passBoundary s n).drive = s.drive ∧
    (passBoundary s n).encoder = s.encoder ∧ (passBoundary s n).attempt = s.attempt ∧
    (passBoundary s n).distance = s.distance ∧ (passBoundary s n).requests = s.requests ∧
    (passBoundary s n).track = s.track ∧ (passBoundary s n).station = s.station ∧
    (passBoundary s n).rounds = s.rounds ∧ (passBoundary s n).power = s.power ∧
    (passBoundary s n).wakeLine = s.wakeLine ∧ (passBoundary s n).settings = s.settings ∧
    (passBoundary s n).powerOns = s.powerOns :=
  ⟨rfl, rfl, rfl, rfl, rfl, rfl, rfl, rfl, rfl, rfl, rfl, rfl, rfl, rfl, rfl, rfl, rfl, rfl, rfl, rfl, rfl, rfl, rfl⟩

/-- A round that has passed the boundary is not tested there; the others are as before. -/
@[simp] theorem mem_untested_passBoundary (s : State) (n m : RoundNo) :
    m ∈ (passBoundary s n).untested ↔ m ∈ s.untested ∧ m ≠ n := by
  simp [passBoundary]

/-- `putSlot` writes `slots`, and `track` for the item *aims waiting*. -/
@[simp] theorem putSlot_keeps (s : State) (i : SlotNo) (a : Option Aim) :
    (putSlot s i a).pending = s.pending ∧ (putSlot s i a).elapsed = s.elapsed ∧ (putSlot s i a).clock = s.clock ∧
    (putSlot s i a).tickDue = s.tickDue ∧ (putSlot s i a).boundary = s.boundary ∧
    (putSlot s i a).untested = s.untested ∧ (putSlot s i a).sets = s.sets ∧ (putSlot s i a).ports = s.ports ∧
    (putSlot s i a).claims = s.claims ∧ (putSlot s i a).grant = s.grant ∧ (putSlot s i a).sequence = s.sequence ∧
    (putSlot s i a).drive = s.drive ∧ (putSlot s i a).encoder = s.encoder ∧ (putSlot s i a).attempt = s.attempt ∧
    (putSlot s i a).distance = s.distance ∧ (putSlot s i a).requests = s.requests ∧
    (putSlot s i a).station = s.station ∧ (putSlot s i a).rounds = s.rounds ∧ (putSlot s i a).power = s.power ∧
    (putSlot s i a).wakeLine = s.wakeLine ∧ (putSlot s i a).settings = s.settings ∧
    (putSlot s i a).powerOns = s.powerOns :=
  ⟨rfl, rfl, rfl, rfl, rfl, rfl, rfl, rfl, rfl, rfl, rfl, rfl, rfl, rfl, rfl, rfl, rfl, rfl, rfl, rfl, rfl, rfl⟩

/-- `setAttempt` writes `attempt` alone. -/
@[simp] theorem setAttempt_keeps (s : State) (t : Attempt) :
    (setAttempt s t).pending = s.pending ∧ (setAttempt s t).elapsed = s.elapsed ∧ (setAttempt s t).clock = s.clock ∧
    (setAttempt s t).tickDue = s.tickDue ∧ (setAttempt s t).boundary = s.boundary ∧
    (setAttempt s t).untested = s.untested ∧ (setAttempt s t).sets = s.sets ∧ (setAttempt s t).ports = s.ports ∧
    (setAttempt s t).claims = s.claims ∧ (setAttempt s t).slots = s.slots ∧ (setAttempt s t).grant = s.grant ∧
    (setAttempt s t).sequence = s.sequence ∧ (setAttempt s t).drive = s.drive ∧
    (setAttempt s t).encoder = s.encoder ∧ (setAttempt s t).distance = s.distance ∧
    (setAttempt s t).requests = s.requests ∧ (setAttempt s t).track = s.track ∧
    (setAttempt s t).station = s.station ∧ (setAttempt s t).rounds = s.rounds ∧ (setAttempt s t).power = s.power ∧
    (setAttempt s t).wakeLine = s.wakeLine ∧ (setAttempt s t).settings = s.settings ∧
    (setAttempt s t).powerOns = s.powerOns :=
  ⟨rfl, rfl, rfl, rfl, rfl, rfl, rfl, rfl, rfl, rfl, rfl, rfl, rfl, rfl, rfl, rfl, rfl, rfl, rfl, rfl, rfl, rfl, rfl⟩

/-- `releaseAim` writes `grant` alone. -/
@[simp] theorem releaseAim_keeps (s : State) :
    (releaseAim s).pending = s.pending ∧ (releaseAim s).elapsed = s.elapsed ∧ (releaseAim s).clock = s.clock ∧
    (releaseAim s).tickDue = s.tickDue ∧ (releaseAim s).boundary = s.boundary ∧
    (releaseAim s).untested = s.untested ∧ (releaseAim s).sets = s.sets ∧ (releaseAim s).ports = s.ports ∧
    (releaseAim s).claims = s.claims ∧ (releaseAim s).slots = s.slots ∧ (releaseAim s).sequence = s.sequence ∧
    (releaseAim s).drive = s.drive ∧ (releaseAim s).encoder = s.encoder ∧ (releaseAim s).attempt = s.attempt ∧
    (releaseAim s).distance = s.distance ∧ (releaseAim s).requests = s.requests ∧ (releaseAim s).track = s.track ∧
    (releaseAim s).station = s.station ∧ (releaseAim s).rounds = s.rounds ∧ (releaseAim s).power = s.power ∧
    (releaseAim s).wakeLine = s.wakeLine ∧ (releaseAim s).settings = s.settings ∧
    (releaseAim s).powerOns = s.powerOns :=
  ⟨rfl, rfl, rfl, rfl, rfl, rfl, rfl, rfl, rfl, rfl, rfl, rfl, rfl, rfl, rfl, rfl, rfl, rfl, rfl, rfl, rfl, rfl, rfl⟩

/-- `reach` writes `elapsed` alone. -/
@[simp] theorem reach_keeps (s : State) (d : Nat) :
    (reach s d).pending = s.pending ∧ (reach s d).clock = s.clock ∧ (reach s d).tickDue = s.tickDue ∧
    (reach s d).boundary = s.boundary ∧ (reach s d).untested = s.untested ∧ (reach s d).sets = s.sets ∧
    (reach s d).ports = s.ports ∧ (reach s d).claims = s.claims ∧ (reach s d).slots = s.slots ∧
    (reach s d).grant = s.grant ∧ (reach s d).sequence = s.sequence ∧ (reach s d).drive = s.drive ∧
    (reach s d).encoder = s.encoder ∧ (reach s d).attempt = s.attempt ∧ (reach s d).distance = s.distance ∧
    (reach s d).requests = s.requests ∧ (reach s d).track = s.track ∧ (reach s d).station = s.station ∧
    (reach s d).rounds = s.rounds ∧ (reach s d).power = s.power ∧ (reach s d).wakeLine = s.wakeLine ∧
    (reach s d).settings = s.settings ∧ (reach s d).powerOns = s.powerOns :=
  ⟨rfl, rfl, rfl, rfl, rfl, rfl, rfl, rfl, rfl, rfl, rfl, rfl, rfl, rfl, rfl, rfl, rfl, rfl, rfl, rfl, rfl, rfl, rfl⟩

/-- `abandonRequest` writes `distance` alone. -/
@[simp] theorem abandonRequest_keeps (s : State) (c : Commander) :
    (abandonRequest s c).pending = s.pending ∧ (abandonRequest s c).elapsed = s.elapsed ∧
    (abandonRequest s c).clock = s.clock ∧ (abandonRequest s c).tickDue = s.tickDue ∧
    (abandonRequest s c).boundary = s.boundary ∧ (abandonRequest s c).untested = s.untested ∧
    (abandonRequest s c).sets = s.sets ∧ (abandonRequest s c).ports = s.ports ∧
    (abandonRequest s c).claims = s.claims ∧ (abandonRequest s c).slots = s.slots ∧
    (abandonRequest s c).grant = s.grant ∧ (abandonRequest s c).sequence = s.sequence ∧
    (abandonRequest s c).drive = s.drive ∧ (abandonRequest s c).encoder = s.encoder ∧
    (abandonRequest s c).attempt = s.attempt ∧ (abandonRequest s c).requests = s.requests ∧
    (abandonRequest s c).track = s.track ∧ (abandonRequest s c).station = s.station ∧
    (abandonRequest s c).rounds = s.rounds ∧ (abandonRequest s c).power = s.power ∧
    (abandonRequest s c).wakeLine = s.wakeLine ∧ (abandonRequest s c).settings = s.settings ∧
    (abandonRequest s c).powerOns = s.powerOns :=
  ⟨rfl, rfl, rfl, rfl, rfl, rfl, rfl, rfl, rfl, rfl, rfl, rfl, rfl, rfl, rfl, rfl, rfl, rfl, rfl, rfl, rfl, rfl, rfl⟩

/-- `sendDistanceRequest` writes `distance` and counts `requests`. -/
@[simp] theorem sendDistanceRequest_keeps (s : State) (c : Commander) :
    (sendDistanceRequest s c).pending = s.pending ∧ (sendDistanceRequest s c).elapsed = s.elapsed ∧
    (sendDistanceRequest s c).clock = s.clock ∧ (sendDistanceRequest s c).tickDue = s.tickDue ∧
    (sendDistanceRequest s c).boundary = s.boundary ∧ (sendDistanceRequest s c).untested = s.untested ∧
    (sendDistanceRequest s c).sets = s.sets ∧ (sendDistanceRequest s c).ports = s.ports ∧
    (sendDistanceRequest s c).claims = s.claims ∧ (sendDistanceRequest s c).slots = s.slots ∧
    (sendDistanceRequest s c).grant = s.grant ∧ (sendDistanceRequest s c).sequence = s.sequence ∧
    (sendDistanceRequest s c).drive = s.drive ∧ (sendDistanceRequest s c).encoder = s.encoder ∧
    (sendDistanceRequest s c).attempt = s.attempt ∧ (sendDistanceRequest s c).track = s.track ∧
    (sendDistanceRequest s c).station = s.station ∧ (sendDistanceRequest s c).rounds = s.rounds ∧
    (sendDistanceRequest s c).power = s.power ∧ (sendDistanceRequest s c).wakeLine = s.wakeLine ∧
    (sendDistanceRequest s c).settings = s.settings ∧ (sendDistanceRequest s c).powerOns = s.powerOns :=
  ⟨rfl, rfl, rfl, rfl, rfl, rfl, rfl, rfl, rfl, rfl, rfl, rfl, rfl, rfl, rfl, rfl, rfl, rfl, rfl, rfl, rfl, rfl⟩

/-! ### Operations over one port -/

/-- `clockOut` writes `ports` alone. -/
@[simp] theorem clockOut_keeps (s : State) (p : Port) (b : List Byte) :
    (clockOut s p b).pending = s.pending ∧ (clockOut s p b).elapsed = s.elapsed ∧ (clockOut s p b).clock = s.clock ∧
    (clockOut s p b).tickDue = s.tickDue ∧ (clockOut s p b).boundary = s.boundary ∧
    (clockOut s p b).untested = s.untested ∧ (clockOut s p b).sets = s.sets ∧ (clockOut s p b).claims = s.claims ∧
    (clockOut s p b).slots = s.slots ∧ (clockOut s p b).grant = s.grant ∧ (clockOut s p b).sequence = s.sequence ∧
    (clockOut s p b).drive = s.drive ∧ (clockOut s p b).encoder = s.encoder ∧ (clockOut s p b).attempt = s.attempt ∧
    (clockOut s p b).distance = s.distance ∧ (clockOut s p b).requests = s.requests ∧
    (clockOut s p b).track = s.track ∧ (clockOut s p b).station = s.station ∧ (clockOut s p b).rounds = s.rounds ∧
    (clockOut s p b).power = s.power ∧ (clockOut s p b).wakeLine = s.wakeLine ∧
    (clockOut s p b).settings = s.settings ∧ (clockOut s p b).powerOns = s.powerOns :=
  ⟨rfl, rfl, rfl, rfl, rfl, rfl, rfl, rfl, rfl, rfl, rfl, rfl, rfl, rfl, rfl, rfl, rfl, rfl, rfl, rfl, rfl, rfl, rfl⟩

/-- `appendReply` writes `ports` alone. -/
@[simp] theorem appendReply_keeps (s : State) (p : Port) (r : Reply) :
    (appendReply s p r).pending = s.pending ∧ (appendReply s p r).elapsed = s.elapsed ∧
    (appendReply s p r).clock = s.clock ∧ (appendReply s p r).tickDue = s.tickDue ∧
    (appendReply s p r).boundary = s.boundary ∧ (appendReply s p r).untested = s.untested ∧
    (appendReply s p r).sets = s.sets ∧ (appendReply s p r).claims = s.claims ∧ (appendReply s p r).slots = s.slots ∧
    (appendReply s p r).grant = s.grant ∧ (appendReply s p r).sequence = s.sequence ∧
    (appendReply s p r).drive = s.drive ∧ (appendReply s p r).encoder = s.encoder ∧
    (appendReply s p r).attempt = s.attempt ∧ (appendReply s p r).distance = s.distance ∧
    (appendReply s p r).requests = s.requests ∧ (appendReply s p r).track = s.track ∧
    (appendReply s p r).station = s.station ∧ (appendReply s p r).rounds = s.rounds ∧
    (appendReply s p r).power = s.power ∧ (appendReply s p r).wakeLine = s.wakeLine ∧
    (appendReply s p r).settings = s.settings ∧ (appendReply s p r).powerOns = s.powerOns :=
  ⟨rfl, rfl, rfl, rfl, rfl, rfl, rfl, rfl, rfl, rfl, rfl, rfl, rfl, rfl, rfl, rfl, rfl, rfl, rfl, rfl, rfl, rfl, rfl⟩

/-- `hold` writes `ports` alone. -/
@[simp] theorem hold_keeps (s : State) (p : Port) (h : Held) :
    (hold s p h).pending = s.pending ∧ (hold s p h).elapsed = s.elapsed ∧ (hold s p h).clock = s.clock ∧
    (hold s p h).tickDue = s.tickDue ∧ (hold s p h).boundary = s.boundary ∧ (hold s p h).untested = s.untested ∧
    (hold s p h).sets = s.sets ∧ (hold s p h).claims = s.claims ∧ (hold s p h).slots = s.slots ∧
    (hold s p h).grant = s.grant ∧ (hold s p h).sequence = s.sequence ∧ (hold s p h).drive = s.drive ∧
    (hold s p h).encoder = s.encoder ∧ (hold s p h).attempt = s.attempt ∧ (hold s p h).distance = s.distance ∧
    (hold s p h).requests = s.requests ∧ (hold s p h).track = s.track ∧ (hold s p h).station = s.station ∧
    (hold s p h).rounds = s.rounds ∧ (hold s p h).power = s.power ∧ (hold s p h).wakeLine = s.wakeLine ∧
    (hold s p h).settings = s.settings ∧ (hold s p h).powerOns = s.powerOns :=
  ⟨rfl, rfl, rfl, rfl, rfl, rfl, rfl, rfl, rfl, rfl, rfl, rfl, rfl, rfl, rfl, rfl, rfl, rfl, rfl, rfl, rfl, rfl, rfl⟩

/-- `notify` writes `ports` alone. -/
@[simp] theorem notify_keeps (s : State) (p : Port) (k : Notice) :
    (notify s p k).pending = s.pending ∧ (notify s p k).elapsed = s.elapsed ∧ (notify s p k).clock = s.clock ∧
    (notify s p k).tickDue = s.tickDue ∧ (notify s p k).boundary = s.boundary ∧
    (notify s p k).untested = s.untested ∧ (notify s p k).sets = s.sets ∧ (notify s p k).claims = s.claims ∧
    (notify s p k).slots = s.slots ∧ (notify s p k).grant = s.grant ∧ (notify s p k).sequence = s.sequence ∧
    (notify s p k).drive = s.drive ∧ (notify s p k).encoder = s.encoder ∧ (notify s p k).attempt = s.attempt ∧
    (notify s p k).distance = s.distance ∧ (notify s p k).requests = s.requests ∧ (notify s p k).track = s.track ∧
    (notify s p k).station = s.station ∧ (notify s p k).rounds = s.rounds ∧ (notify s p k).power = s.power ∧
    (notify s p k).wakeLine = s.wakeLine ∧ (notify s p k).settings = s.settings ∧
    (notify s p k).powerOns = s.powerOns :=
  ⟨rfl, rfl, rfl, rfl, rfl, rfl, rfl, rfl, rfl, rfl, rfl, rfl, rfl, rfl, rfl, rfl, rfl, rfl, rfl, rfl, rfl, rfl, rfl⟩

/-- `notifyAll` writes `ports` alone. -/
@[simp] theorem notifyAll_keeps (s : State) (k : Notice) :
    (notifyAll s k).pending = s.pending ∧ (notifyAll s k).elapsed = s.elapsed ∧ (notifyAll s k).clock = s.clock ∧
    (notifyAll s k).tickDue = s.tickDue ∧ (notifyAll s k).boundary = s.boundary ∧
    (notifyAll s k).untested = s.untested ∧ (notifyAll s k).sets = s.sets ∧ (notifyAll s k).claims = s.claims ∧
    (notifyAll s k).slots = s.slots ∧ (notifyAll s k).grant = s.grant ∧ (notifyAll s k).sequence = s.sequence ∧
    (notifyAll s k).drive = s.drive ∧ (notifyAll s k).encoder = s.encoder ∧ (notifyAll s k).attempt = s.attempt ∧
    (notifyAll s k).distance = s.distance ∧ (notifyAll s k).requests = s.requests ∧ (notifyAll s k).track = s.track ∧
    (notifyAll s k).station = s.station ∧ (notifyAll s k).rounds = s.rounds ∧ (notifyAll s k).power = s.power ∧
    (notifyAll s k).wakeLine = s.wakeLine ∧ (notifyAll s k).settings = s.settings ∧
    (notifyAll s k).powerOns = s.powerOns :=
  ⟨rfl, rfl, rfl, rfl, rfl, rfl, rfl, rfl, rfl, rfl, rfl, rfl, rfl, rfl, rfl, rfl, rfl, rfl, rfl, rfl, rfl, rfl, rfl⟩

/-- `answer` writes `ports` alone. -/
@[simp] theorem answer_keeps (s : State) (f : Frame) (b : List Byte) :
    (answer s f b).pending = s.pending ∧ (answer s f b).elapsed = s.elapsed ∧ (answer s f b).clock = s.clock ∧
    (answer s f b).tickDue = s.tickDue ∧ (answer s f b).boundary = s.boundary ∧
    (answer s f b).untested = s.untested ∧ (answer s f b).sets = s.sets ∧ (answer s f b).claims = s.claims ∧
    (answer s f b).slots = s.slots ∧ (answer s f b).grant = s.grant ∧ (answer s f b).sequence = s.sequence ∧
    (answer s f b).drive = s.drive ∧ (answer s f b).encoder = s.encoder ∧ (answer s f b).attempt = s.attempt ∧
    (answer s f b).distance = s.distance ∧ (answer s f b).requests = s.requests ∧ (answer s f b).track = s.track ∧
    (answer s f b).station = s.station ∧ (answer s f b).rounds = s.rounds ∧ (answer s f b).power = s.power ∧
    (answer s f b).wakeLine = s.wakeLine ∧ (answer s f b).settings = s.settings ∧
    (answer s f b).powerOns = s.powerOns :=
  ⟨rfl, rfl, rfl, rfl, rfl, rfl, rfl, rfl, rfl, rfl, rfl, rfl, rfl, rfl, rfl, rfl, rfl, rfl, rfl, rfl, rfl, rfl, rfl⟩

/-- `refuse` writes `ports` alone. -/
@[simp] theorem refuse_keeps (s : State) (f : Frame) (st : Status) :
    (refuse s f st).pending = s.pending ∧ (refuse s f st).elapsed = s.elapsed ∧ (refuse s f st).clock = s.clock ∧
    (refuse s f st).tickDue = s.tickDue ∧ (refuse s f st).boundary = s.boundary ∧
    (refuse s f st).untested = s.untested ∧ (refuse s f st).sets = s.sets ∧ (refuse s f st).claims = s.claims ∧
    (refuse s f st).slots = s.slots ∧ (refuse s f st).grant = s.grant ∧ (refuse s f st).sequence = s.sequence ∧
    (refuse s f st).drive = s.drive ∧ (refuse s f st).encoder = s.encoder ∧ (refuse s f st).attempt = s.attempt ∧
    (refuse s f st).distance = s.distance ∧ (refuse s f st).requests = s.requests ∧ (refuse s f st).track = s.track ∧
    (refuse s f st).station = s.station ∧ (refuse s f st).rounds = s.rounds ∧ (refuse s f st).power = s.power ∧
    (refuse s f st).wakeLine = s.wakeLine ∧ (refuse s f st).settings = s.settings ∧
    (refuse s f st).powerOns = s.powerOns :=
  ⟨rfl, rfl, rfl, rfl, rfl, rfl, rfl, rfl, rfl, rfl, rfl, rfl, rfl, rfl, rfl, rfl, rfl, rfl, rfl, rfl, rfl, rfl, rfl⟩

/-- `postReply` writes `ports` alone. -/
@[simp] theorem postReply_keeps (s : State) (p : Port) (r : Reply) (d : Bool) :
    (postReply s p r d).pending = s.pending ∧ (postReply s p r d).elapsed = s.elapsed ∧
    (postReply s p r d).clock = s.clock ∧ (postReply s p r d).tickDue = s.tickDue ∧
    (postReply s p r d).boundary = s.boundary ∧ (postReply s p r d).untested = s.untested ∧
    (postReply s p r d).sets = s.sets ∧ (postReply s p r d).claims = s.claims ∧ (postReply s p r d).slots = s.slots ∧
    (postReply s p r d).grant = s.grant ∧ (postReply s p r d).sequence = s.sequence ∧
    (postReply s p r d).drive = s.drive ∧ (postReply s p r d).encoder = s.encoder ∧
    (postReply s p r d).attempt = s.attempt ∧ (postReply s p r d).distance = s.distance ∧
    (postReply s p r d).requests = s.requests ∧ (postReply s p r d).track = s.track ∧
    (postReply s p r d).station = s.station ∧ (postReply s p r d).rounds = s.rounds ∧
    (postReply s p r d).power = s.power ∧ (postReply s p r d).wakeLine = s.wakeLine ∧
    (postReply s p r d).settings = s.settings ∧ (postReply s p r d).powerOns = s.powerOns := by
  unfold postReply; split <;> simp

/-! ### What an update writes -/

@[simp] theorem atPort_putPort_same {α : Type} (m : PerPort α) (p : Port) (x : α) : atPort (putPort m p x) p = x := by
  cases p <;> rfl

theorem atPort_putPort_other {α : Type} (m : PerPort α) {p q : Port} (x : α) (h : q ≠ p) :
    atPort (putPort m p x) q = atPort m q := by
  cases p <;> cases q <;> first | rfl | exact absurd rfl h

@[simp] theorem putPort_putPort {α : Type} (m : PerPort α) (p : Port) (x y : α) :
    putPort (putPort m p x) p y = putPort m p y := by
  cases p <;> rfl

@[simp] theorem putPort_atPort {α : Type} (m : PerPort α) (p : Port) : putPort m p (atPort m p) = m := by
  cases p <;> rfl

/-- The record of the port that `modPort` changes. -/
@[simp] theorem portRecord_modPort_same (s : State) (p : Port) (f : PortRecord → PortRecord) :
    portRecord (modPort s p f) p = f (portRecord s p) := by
  simp [portRecord, modPort]

/-- Another port's record. -/
theorem portRecord_modPort_other (s : State) {p q : Port} (f : PortRecord → PortRecord) (h : q ≠ p) :
    portRecord (modPort s p f) q = portRecord s q := by
  simp [portRecord, modPort, atPort_putPort_other _ _ h]

@[simp] theorem claim_putClaim_same (s : State) (p : Port) (c : Claim) : claim (putClaim s p c) p = c := by
  simp [claim, putClaim]

theorem claim_putClaim_other (s : State) {p q : Port} (c : Claim) (h : q ≠ p) :
    claim (putClaim s p c) q = claim s q := by
  simp [claim, putClaim, atPort_putPort_other _ _ h]

@[simp] theorem setAt_putSet_same (s : State) (k : Fin 32) (t : TableSet) : setAt (putSet s k t) k = t := by
  simp [setAt, putSet]

theorem setAt_putSet_other (s : State) {k j : Fin 32} (t : TableSet) (h : j ≠ k) :
    setAt (putSet s k t) j = setAt s j := by
  have : (k : Nat) ≠ j := fun e => h (Fin.ext e.symm)
  simp [setAt, putSet, this]

@[simp] theorem roundAt_putRound_same (s : State) (n : RoundNo) (r : Round) : roundAt (putRound s n r) n = r := by
  simp [roundAt, putRound]

theorem roundAt_putRound_other (s : State) {n m : RoundNo} (r : Round) (h : m ≠ n) :
    roundAt (putRound s n r) m = roundAt s m := by
  have : (n : Nat) ≠ m := fun e => h (Fin.ext e.symm)
  simp [roundAt, putRound, this]

@[simp] theorem slotAt_putSlot_same (s : State) (i : SlotNo) (a : Option Aim) : slotAt (putSlot s i a) i = a := by
  simp [slotAt, putSlot]

theorem slotAt_putSlot_other (s : State) {i j : SlotNo} (a : Option Aim) (h : j ≠ i) :
    slotAt (putSlot s i a) j = slotAt s j := by
  have : (i : Nat) ≠ j := fun e => h (Fin.ext e.symm)
  simp [slotAt, putSlot, this]

end Sys2Proof.Machine
end

