-- ==== Sys2Proof/Laws/Ops.lean ====
section
/-! SUPPORT. What each shared operation can do: the fields it keeps, and the ways it can answer. -/

namespace Sys2Proof.Machine

/-! ### The table and the reservations -/

/-- `storeEntry` writes `sets` alone. -/
@[simp] theorem storeEntry_keeps (s : State) (k : Fin 32) (w : Fin 4) (e : Entry) :
    (storeEntry s k w e).pending = s.pending ∧ (storeEntry s k w e).elapsed = s.elapsed ∧
    (storeEntry s k w e).clock = s.clock ∧ (storeEntry s k w e).tickDue = s.tickDue ∧
    (storeEntry s k w e).boundary = s.boundary ∧ (storeEntry s k w e).untested = s.untested ∧
    (storeEntry s k w e).ports = s.ports ∧ (storeEntry s k w e).claims = s.claims ∧
    (storeEntry s k w e).slots = s.slots ∧ (storeEntry s k w e).grant = s.grant ∧
    (storeEntry s k w e).sequence = s.sequence ∧ (storeEntry s k w e).drive = s.drive ∧
    (storeEntry s k w e).encoder = s.encoder ∧ (storeEntry s k w e).attempt = s.attempt ∧
    (storeEntry s k w e).distance = s.distance ∧ (storeEntry s k w e).requests = s.requests ∧
    (storeEntry s k w e).track = s.track ∧ (storeEntry s k w e).station = s.station ∧
    (storeEntry s k w e).rounds = s.rounds ∧ (storeEntry s k w e).power = s.power ∧
    (storeEntry s k w e).wakeLine = s.wakeLine ∧ (storeEntry s k w e).settings = s.settings ∧
    (storeEntry s k w e).powerOns = s.powerOns := by
  simp [storeEntry]

/-- `updateEntry` writes `sets` alone. -/
@[simp] theorem updateEntry_keeps (s : State) (id : Nat) (f : Entry → Entry) :
    (updateEntry s id f).pending = s.pending ∧ (updateEntry s id f).elapsed = s.elapsed ∧
    (updateEntry s id f).clock = s.clock ∧ (updateEntry s id f).tickDue = s.tickDue ∧
    (updateEntry s id f).boundary = s.boundary ∧ (updateEntry s id f).untested = s.untested ∧
    (updateEntry s id f).ports = s.ports ∧ (updateEntry s id f).claims = s.claims ∧
    (updateEntry s id f).slots = s.slots ∧ (updateEntry s id f).grant = s.grant ∧
    (updateEntry s id f).sequence = s.sequence ∧ (updateEntry s id f).drive = s.drive ∧
    (updateEntry s id f).encoder = s.encoder ∧ (updateEntry s id f).attempt = s.attempt ∧
    (updateEntry s id f).distance = s.distance ∧ (updateEntry s id f).requests = s.requests ∧
    (updateEntry s id f).track = s.track ∧ (updateEntry s id f).station = s.station ∧
    (updateEntry s id f).rounds = s.rounds ∧ (updateEntry s id f).power = s.power ∧
    (updateEntry s id f).wakeLine = s.wakeLine ∧ (updateEntry s id f).settings = s.settings ∧
    (updateEntry s id f).powerOns = s.powerOns := by
  unfold updateEntry; split <;> simp

/-- `touchEntry` writes `sets` alone. -/
@[simp] theorem touchEntry_keeps (s : State) (id : Nat) :
    (touchEntry s id).pending = s.pending ∧ (touchEntry s id).elapsed = s.elapsed ∧
    (touchEntry s id).clock = s.clock ∧ (touchEntry s id).tickDue = s.tickDue ∧
    (touchEntry s id).boundary = s.boundary ∧ (touchEntry s id).untested = s.untested ∧
    (touchEntry s id).ports = s.ports ∧ (touchEntry s id).claims = s.claims ∧ (touchEntry s id).slots = s.slots ∧
    (touchEntry s id).grant = s.grant ∧ (touchEntry s id).sequence = s.sequence ∧ (touchEntry s id).drive = s.drive ∧
    (touchEntry s id).encoder = s.encoder ∧ (touchEntry s id).attempt = s.attempt ∧
    (touchEntry s id).distance = s.distance ∧ (touchEntry s id).requests = s.requests ∧
    (touchEntry s id).track = s.track ∧ (touchEntry s id).station = s.station ∧ (touchEntry s id).rounds = s.rounds ∧
    (touchEntry s id).power = s.power ∧ (touchEntry s id).wakeLine = s.wakeLine ∧
    (touchEntry s id).settings = s.settings ∧ (touchEntry s id).powerOns = s.powerOns := by
  simp [touchEntry]

/-- `dropWay` writes `sets` alone. -/
@[simp] theorem dropWay_keeps (s : State) (k : Fin 32) (w : Fin 4) :
    (dropWay s k w).pending = s.pending ∧ (dropWay s k w).elapsed = s.elapsed ∧ (dropWay s k w).clock = s.clock ∧
    (dropWay s k w).tickDue = s.tickDue ∧ (dropWay s k w).boundary = s.boundary ∧
    (dropWay s k w).untested = s.untested ∧ (dropWay s k w).ports = s.ports ∧ (dropWay s k w).claims = s.claims ∧
    (dropWay s k w).slots = s.slots ∧ (dropWay s k w).grant = s.grant ∧ (dropWay s k w).sequence = s.sequence ∧
    (dropWay s k w).drive = s.drive ∧ (dropWay s k w).encoder = s.encoder ∧ (dropWay s k w).attempt = s.attempt ∧
    (dropWay s k w).distance = s.distance ∧ (dropWay s k w).requests = s.requests ∧ (dropWay s k w).track = s.track ∧
    (dropWay s k w).station = s.station ∧ (dropWay s k w).rounds = s.rounds ∧ (dropWay s k w).power = s.power ∧
    (dropWay s k w).wakeLine = s.wakeLine ∧ (dropWay s k w).settings = s.settings ∧
    (dropWay s k w).powerOns = s.powerOns := by
  simp [dropWay]

/-- `breakClaim` writes `claims` and `ports`. -/
@[simp] theorem breakClaim_keeps (s : State) (p : Port) (id : Nat) (c : ChangeCause) :
    (breakClaim s p id c).pending = s.pending ∧ (breakClaim s p id c).elapsed = s.elapsed ∧
    (breakClaim s p id c).clock = s.clock ∧ (breakClaim s p id c).tickDue = s.tickDue ∧
    (breakClaim s p id c).boundary = s.boundary ∧ (breakClaim s p id c).untested = s.untested ∧
    (breakClaim s p id c).sets = s.sets ∧ (breakClaim s p id c).slots = s.slots ∧
    (breakClaim s p id c).grant = s.grant ∧ (breakClaim s p id c).sequence = s.sequence ∧
    (breakClaim s p id c).drive = s.drive ∧ (breakClaim s p id c).encoder = s.encoder ∧
    (breakClaim s p id c).attempt = s.attempt ∧ (breakClaim s p id c).distance = s.distance ∧
    (breakClaim s p id c).requests = s.requests ∧ (breakClaim s p id c).track = s.track ∧
    (breakClaim s p id c).station = s.station ∧ (breakClaim s p id c).rounds = s.rounds ∧
    (breakClaim s p id c).power = s.power ∧ (breakClaim s p id c).wakeLine = s.wakeLine ∧
    (breakClaim s p id c).settings = s.settings ∧ (breakClaim s p id c).powerOns = s.powerOns := by
  unfold breakClaim; split
  · split <;> simp
  · simp

/-- `reportModification` writes `claims` and `ports`. -/
@[simp] theorem reportModification_keeps (s : State) (id : Nat) (c : ChangeCause) :
    (reportModification s id c).pending = s.pending ∧ (reportModification s id c).elapsed = s.elapsed ∧
    (reportModification s id c).clock = s.clock ∧ (reportModification s id c).tickDue = s.tickDue ∧
    (reportModification s id c).boundary = s.boundary ∧ (reportModification s id c).untested = s.untested ∧
    (reportModification s id c).sets = s.sets ∧ (reportModification s id c).slots = s.slots ∧
    (reportModification s id c).grant = s.grant ∧ (reportModification s id c).sequence = s.sequence ∧
    (reportModification s id c).drive = s.drive ∧ (reportModification s id c).encoder = s.encoder ∧
    (reportModification s id c).attempt = s.attempt ∧ (reportModification s id c).distance = s.distance ∧
    (reportModification s id c).requests = s.requests ∧ (reportModification s id c).track = s.track ∧
    (reportModification s id c).station = s.station ∧ (reportModification s id c).rounds = s.rounds ∧
    (reportModification s id c).power = s.power ∧ (reportModification s id c).wakeLine = s.wakeLine ∧
    (reportModification s id c).settings = s.settings ∧ (reportModification s id c).powerOns = s.powerOns := by
  simp [reportModification]

/-- `observeEntry` writes `sets`, `claims` and `ports`. -/
@[simp] theorem observeEntry_keeps (s : State) (id : Nat) (f : Entry → Entry) :
    (observeEntry s id f).pending = s.pending ∧ (observeEntry s id f).elapsed = s.elapsed ∧
    (observeEntry s id f).clock = s.clock ∧ (observeEntry s id f).tickDue = s.tickDue ∧
    (observeEntry s id f).boundary = s.boundary ∧ (observeEntry s id f).untested = s.untested ∧
    (observeEntry s id f).slots = s.slots ∧ (observeEntry s id f).grant = s.grant ∧
    (observeEntry s id f).sequence = s.sequence ∧ (observeEntry s id f).drive = s.drive ∧
    (observeEntry s id f).encoder = s.encoder ∧ (observeEntry s id f).attempt = s.attempt ∧
    (observeEntry s id f).distance = s.distance ∧ (observeEntry s id f).requests = s.requests ∧
    (observeEntry s id f).track = s.track ∧ (observeEntry s id f).station = s.station ∧
    (observeEntry s id f).rounds = s.rounds ∧ (observeEntry s id f).power = s.power ∧
    (observeEntry s id f).wakeLine = s.wakeLine ∧ (observeEntry s id f).settings = s.settings ∧
    (observeEntry s id f).powerOns = s.powerOns := by
  unfold observeEntry; split <;> simp

/-! ### The drive, the power state and the rounds -/

/-- `commandMove` writes `drive` alone. -/
@[simp] theorem commandMove_keeps (s : State) (x : Pointing) (c : Commander) :
    (commandMove s x c).pending = s.pending ∧ (commandMove s x c).elapsed = s.elapsed ∧
    (commandMove s x c).clock = s.clock ∧ (commandMove s x c).tickDue = s.tickDue ∧
    (commandMove s x c).boundary = s.boundary ∧ (commandMove s x c).untested = s.untested ∧
    (commandMove s x c).sets = s.sets ∧ (commandMove s x c).ports = s.ports ∧ (commandMove s x c).claims = s.claims ∧
    (commandMove s x c).slots = s.slots ∧ (commandMove s x c).grant = s.grant ∧
    (commandMove s x c).sequence = s.sequence ∧ (commandMove s x c).encoder = s.encoder ∧
    (commandMove s x c).attempt = s.attempt ∧ (commandMove s x c).distance = s.distance ∧
    (commandMove s x c).requests = s.requests ∧ (commandMove s x c).track = s.track ∧
    (commandMove s x c).station = s.station ∧ (commandMove s x c).rounds = s.rounds ∧
    (commandMove s x c).power = s.power ∧ (commandMove s x c).wakeLine = s.wakeLine ∧
    (commandMove s x c).settings = s.settings ∧ (commandMove s x c).powerOns = s.powerOns := by
  unfold commandMove; split <;> simp

/-- `stopDrive` writes `drive` alone. -/
@[simp] theorem stopDrive_keeps (s : State) :
    (stopDrive s).pending = s.pending ∧ (stopDrive s).elapsed = s.elapsed ∧ (stopDrive s).clock = s.clock ∧
    (stopDrive s).tickDue = s.tickDue ∧ (stopDrive s).boundary = s.boundary ∧ (stopDrive s).untested = s.untested ∧
    (stopDrive s).sets = s.sets ∧ (stopDrive s).ports = s.ports ∧ (stopDrive s).claims = s.claims ∧
    (stopDrive s).slots = s.slots ∧ (stopDrive s).grant = s.grant ∧ (stopDrive s).sequence = s.sequence ∧
    (stopDrive s).encoder = s.encoder ∧ (stopDrive s).attempt = s.attempt ∧ (stopDrive s).distance = s.distance ∧
    (stopDrive s).requests = s.requests ∧ (stopDrive s).track = s.track ∧ (stopDrive s).station = s.station ∧
    (stopDrive s).rounds = s.rounds ∧ (stopDrive s).power = s.power ∧ (stopDrive s).wakeLine = s.wakeLine ∧
    (stopDrive s).settings = s.settings ∧ (stopDrive s).powerOns = s.powerOns := by
  unfold stopDrive; split
  · split <;> simp
  · simp

/-- `stopTrackMove` writes `drive` alone. -/
@[simp] theorem stopTrackMove_keeps (s : State) :
    (stopTrackMove s).pending = s.pending ∧ (stopTrackMove s).elapsed = s.elapsed ∧
    (stopTrackMove s).clock = s.clock ∧ (stopTrackMove s).tickDue = s.tickDue ∧
    (stopTrackMove s).boundary = s.boundary ∧ (stopTrackMove s).untested = s.untested ∧
    (stopTrackMove s).sets = s.sets ∧ (stopTrackMove s).ports = s.ports ∧ (stopTrackMove s).claims = s.claims ∧
    (stopTrackMove s).slots = s.slots ∧ (stopTrackMove s).grant = s.grant ∧ (stopTrackMove s).sequence = s.sequence ∧
    (stopTrackMove s).encoder = s.encoder ∧ (stopTrackMove s).attempt = s.attempt ∧
    (stopTrackMove s).distance = s.distance ∧ (stopTrackMove s).requests = s.requests ∧
    (stopTrackMove s).track = s.track ∧ (stopTrackMove s).station = s.station ∧ (stopTrackMove s).rounds = s.rounds ∧
    (stopTrackMove s).power = s.power ∧ (stopTrackMove s).wakeLine = s.wakeLine ∧
    (stopTrackMove s).settings = s.settings ∧ (stopTrackMove s).powerOns = s.powerOns := by
  unfold stopTrackMove; split
  · split <;> simp
  · simp

/-- `driveWake` writes `drive` alone. -/
@[simp] theorem driveWake_keeps (s : State) :
    (driveWake s).pending = s.pending ∧ (driveWake s).elapsed = s.elapsed ∧ (driveWake s).clock = s.clock ∧
    (driveWake s).tickDue = s.tickDue ∧ (driveWake s).boundary = s.boundary ∧ (driveWake s).untested = s.untested ∧
    (driveWake s).sets = s.sets ∧ (driveWake s).ports = s.ports ∧ (driveWake s).claims = s.claims ∧
    (driveWake s).slots = s.slots ∧ (driveWake s).grant = s.grant ∧ (driveWake s).sequence = s.sequence ∧
    (driveWake s).encoder = s.encoder ∧ (driveWake s).attempt = s.attempt ∧ (driveWake s).distance = s.distance ∧
    (driveWake s).requests = s.requests ∧ (driveWake s).track = s.track ∧ (driveWake s).station = s.station ∧
    (driveWake s).rounds = s.rounds ∧ (driveWake s).power = s.power ∧ (driveWake s).wakeLine = s.wakeLine ∧
    (driveWake s).settings = s.settings ∧ (driveWake s).powerOns = s.powerOns := by
  unfold driveWake; split <;> simp

/-- `driveSettleEnd` writes `drive` alone. -/
@[simp] theorem driveSettleEnd_keeps (s : State) :
    (driveSettleEnd s).pending = s.pending ∧ (driveSettleEnd s).elapsed = s.elapsed ∧
    (driveSettleEnd s).clock = s.clock ∧ (driveSettleEnd s).tickDue = s.tickDue ∧
    (driveSettleEnd s).boundary = s.boundary ∧ (driveSettleEnd s).untested = s.untested ∧
    (driveSettleEnd s).sets = s.sets ∧ (driveSettleEnd s).ports = s.ports ∧ (driveSettleEnd s).claims = s.claims ∧
    (driveSettleEnd s).slots = s.slots ∧ (driveSettleEnd s).grant = s.grant ∧
    (driveSettleEnd s).sequence = s.sequence ∧ (driveSettleEnd s).encoder = s.encoder ∧
    (driveSettleEnd s).attempt = s.attempt ∧ (driveSettleEnd s).distance = s.distance ∧
    (driveSettleEnd s).requests = s.requests ∧ (driveSettleEnd s).track = s.track ∧
    (driveSettleEnd s).station = s.station ∧ (driveSettleEnd s).rounds = s.rounds ∧
    (driveSettleEnd s).power = s.power ∧ (driveSettleEnd s).wakeLine = s.wakeLine ∧
    (driveSettleEnd s).settings = s.settings ∧ (driveSettleEnd s).powerOns = s.powerOns := by
  unfold driveSettleEnd; split <;> simp

/-- `driveReturnToRest` writes `drive` alone. -/
@[simp] theorem driveReturnToRest_keeps (s : State) :
    (driveReturnToRest s).pending = s.pending ∧ (driveReturnToRest s).elapsed = s.elapsed ∧
    (driveReturnToRest s).clock = s.clock ∧ (driveReturnToRest s).tickDue = s.tickDue ∧
    (driveReturnToRest s).boundary = s.boundary ∧ (driveReturnToRest s).untested = s.untested ∧
    (driveReturnToRest s).sets = s.sets ∧ (driveReturnToRest s).ports = s.ports ∧
    (driveReturnToRest s).claims = s.claims ∧ (driveReturnToRest s).slots = s.slots ∧
    (driveReturnToRest s).grant = s.grant ∧ (driveReturnToRest s).sequence = s.sequence ∧
    (driveReturnToRest s).encoder = s.encoder ∧ (driveReturnToRest s).attempt = s.attempt ∧
    (driveReturnToRest s).distance = s.distance ∧ (driveReturnToRest s).requests = s.requests ∧
    (driveReturnToRest s).track = s.track ∧ (driveReturnToRest s).station = s.station ∧
    (driveReturnToRest s).rounds = s.rounds ∧ (driveReturnToRest s).power = s.power ∧
    (driveReturnToRest s).wakeLine = s.wakeLine ∧ (driveReturnToRest s).settings = s.settings ∧
    (driveReturnToRest s).powerOns = s.powerOns := by
  unfold driveReturnToRest; split <;> simp

/-- `driveClearFault` writes `drive` alone. -/
@[simp] theorem driveClearFault_keeps (s : State) :
    (driveClearFault s).pending = s.pending ∧ (driveClearFault s).elapsed = s.elapsed ∧
    (driveClearFault s).clock = s.clock ∧ (driveClearFault s).tickDue = s.tickDue ∧
    (driveClearFault s).boundary = s.boundary ∧ (driveClearFault s).untested = s.untested ∧
    (driveClearFault s).sets = s.sets ∧ (driveClearFault s).ports = s.ports ∧ (driveClearFault s).claims = s.claims ∧
    (driveClearFault s).slots = s.slots ∧ (driveClearFault s).grant = s.grant ∧
    (driveClearFault s).sequence = s.sequence ∧ (driveClearFault s).encoder = s.encoder ∧
    (driveClearFault s).attempt = s.attempt ∧ (driveClearFault s).distance = s.distance ∧
    (driveClearFault s).requests = s.requests ∧ (driveClearFault s).track = s.track ∧
    (driveClearFault s).station = s.station ∧ (driveClearFault s).rounds = s.rounds ∧
    (driveClearFault s).power = s.power ∧ (driveClearFault s).wakeLine = s.wakeLine ∧
    (driveClearFault s).settings = s.settings ∧ (driveClearFault s).powerOns = s.powerOns := by
  unfold driveClearFault; split <;> simp

/-- `leaveIdle` writes `power` alone. -/
@[simp] theorem leaveIdle_keeps (s : State) :
    (leaveIdle s).pending = s.pending ∧ (leaveIdle s).elapsed = s.elapsed ∧ (leaveIdle s).clock = s.clock ∧
    (leaveIdle s).tickDue = s.tickDue ∧ (leaveIdle s).boundary = s.boundary ∧ (leaveIdle s).untested = s.untested ∧
    (leaveIdle s).sets = s.sets ∧ (leaveIdle s).ports = s.ports ∧ (leaveIdle s).claims = s.claims ∧
    (leaveIdle s).slots = s.slots ∧ (leaveIdle s).grant = s.grant ∧ (leaveIdle s).sequence = s.sequence ∧
    (leaveIdle s).drive = s.drive ∧ (leaveIdle s).encoder = s.encoder ∧ (leaveIdle s).attempt = s.attempt ∧
    (leaveIdle s).distance = s.distance ∧ (leaveIdle s).requests = s.requests ∧ (leaveIdle s).track = s.track ∧
    (leaveIdle s).station = s.station ∧ (leaveIdle s).rounds = s.rounds ∧ (leaveIdle s).wakeLine = s.wakeLine ∧
    (leaveIdle s).settings = s.settings ∧ (leaveIdle s).powerOns = s.powerOns := by
  unfold leaveIdle; split <;> simp

/-- `idleTest` writes `power` alone. -/
@[simp] theorem idleTest_keeps (s : State) :
    (idleTest s).pending = s.pending ∧ (idleTest s).elapsed = s.elapsed ∧ (idleTest s).clock = s.clock ∧
    (idleTest s).tickDue = s.tickDue ∧ (idleTest s).boundary = s.boundary ∧ (idleTest s).untested = s.untested ∧
    (idleTest s).sets = s.sets ∧ (idleTest s).ports = s.ports ∧ (idleTest s).claims = s.claims ∧
    (idleTest s).slots = s.slots ∧ (idleTest s).grant = s.grant ∧ (idleTest s).sequence = s.sequence ∧
    (idleTest s).drive = s.drive ∧ (idleTest s).encoder = s.encoder ∧ (idleTest s).attempt = s.attempt ∧
    (idleTest s).distance = s.distance ∧ (idleTest s).requests = s.requests ∧ (idleTest s).track = s.track ∧
    (idleTest s).station = s.station ∧ (idleTest s).rounds = s.rounds ∧ (idleTest s).wakeLine = s.wakeLine ∧
    (idleTest s).settings = s.settings ∧ (idleTest s).powerOns = s.powerOns := by
  unfold idleTest; split <;> (try split) <;> simp

/-- `takeWakeCause` writes `power` and `drive`. -/
@[simp] theorem takeWakeCause_keeps (s : State) (c : WakeCause) :
    (takeWakeCause s c).pending = s.pending ∧ (takeWakeCause s c).elapsed = s.elapsed ∧
    (takeWakeCause s c).clock = s.clock ∧ (takeWakeCause s c).tickDue = s.tickDue ∧
    (takeWakeCause s c).boundary = s.boundary ∧ (takeWakeCause s c).untested = s.untested ∧
    (takeWakeCause s c).sets = s.sets ∧ (takeWakeCause s c).ports = s.ports ∧ (takeWakeCause s c).claims = s.claims ∧
    (takeWakeCause s c).slots = s.slots ∧ (takeWakeCause s c).grant = s.grant ∧
    (takeWakeCause s c).sequence = s.sequence ∧ (takeWakeCause s c).encoder = s.encoder ∧
    (takeWakeCause s c).attempt = s.attempt ∧ (takeWakeCause s c).distance = s.distance ∧
    (takeWakeCause s c).requests = s.requests ∧ (takeWakeCause s c).track = s.track ∧
    (takeWakeCause s c).station = s.station ∧ (takeWakeCause s c).rounds = s.rounds ∧
    (takeWakeCause s c).wakeLine = s.wakeLine ∧ (takeWakeCause s c).settings = s.settings ∧
    (takeWakeCause s c).powerOns = s.powerOns := by
  unfold takeWakeCause; split <;> (try split) <;> simp

/-- `enterRest` writes `power`, `drive` and `distance`. -/
@[simp] theorem enterRest_keeps (s : State) :
    (enterRest s).pending = s.pending ∧ (enterRest s).elapsed = s.elapsed ∧ (enterRest s).clock = s.clock ∧
    (enterRest s).tickDue = s.tickDue ∧ (enterRest s).boundary = s.boundary ∧ (enterRest s).untested = s.untested ∧
    (enterRest s).sets = s.sets ∧ (enterRest s).ports = s.ports ∧ (enterRest s).claims = s.claims ∧
    (enterRest s).slots = s.slots ∧ (enterRest s).grant = s.grant ∧ (enterRest s).sequence = s.sequence ∧
    (enterRest s).encoder = s.encoder ∧ (enterRest s).attempt = s.attempt ∧ (enterRest s).requests = s.requests ∧
    (enterRest s).track = s.track ∧ (enterRest s).station = s.station ∧ (enterRest s).rounds = s.rounds ∧
    (enterRest s).wakeLine = s.wakeLine ∧ (enterRest s).settings = s.settings ∧ (enterRest s).powerOns = s.powerOns := by
  simp [enterRest, driveRest]

/-- `countFinal` writes `rounds` alone. -/
@[simp] theorem countFinal_keeps (s : State) (n : RoundNo) (st : Status) :
    (countFinal s n st).pending = s.pending ∧ (countFinal s n st).elapsed = s.elapsed ∧
    (countFinal s n st).clock = s.clock ∧ (countFinal s n st).tickDue = s.tickDue ∧
    (countFinal s n st).boundary = s.boundary ∧ (countFinal s n st).untested = s.untested ∧
    (countFinal s n st).sets = s.sets ∧ (countFinal s n st).ports = s.ports ∧ (countFinal s n st).claims = s.claims ∧
    (countFinal s n st).slots = s.slots ∧ (countFinal s n st).grant = s.grant ∧
    (countFinal s n st).sequence = s.sequence ∧ (countFinal s n st).drive = s.drive ∧
    (countFinal s n st).encoder = s.encoder ∧ (countFinal s n st).attempt = s.attempt ∧
    (countFinal s n st).distance = s.distance ∧ (countFinal s n st).requests = s.requests ∧
    (countFinal s n st).track = s.track ∧ (countFinal s n st).station = s.station ∧
    (countFinal s n st).power = s.power ∧ (countFinal s n st).wakeLine = s.wakeLine ∧
    (countFinal s n st).settings = s.settings ∧ (countFinal s n st).powerOns = s.powerOns := by
  simp only [countFinal]; split <;> simp

/-- `countSkipped` writes `rounds` alone. -/
@[simp] theorem countSkipped_keeps (s : State) (n : RoundNo) (k : Nat) :
    (countSkipped s n k).pending = s.pending ∧ (countSkipped s n k).elapsed = s.elapsed ∧
    (countSkipped s n k).clock = s.clock ∧ (countSkipped s n k).tickDue = s.tickDue ∧
    (countSkipped s n k).boundary = s.boundary ∧ (countSkipped s n k).untested = s.untested ∧
    (countSkipped s n k).sets = s.sets ∧ (countSkipped s n k).ports = s.ports ∧
    (countSkipped s n k).claims = s.claims ∧ (countSkipped s n k).slots = s.slots ∧
    (countSkipped s n k).grant = s.grant ∧ (countSkipped s n k).sequence = s.sequence ∧
    (countSkipped s n k).drive = s.drive ∧ (countSkipped s n k).encoder = s.encoder ∧
    (countSkipped s n k).attempt = s.attempt ∧ (countSkipped s n k).distance = s.distance ∧
    (countSkipped s n k).requests = s.requests ∧ (countSkipped s n k).track = s.track ∧
    (countSkipped s n k).station = s.station ∧ (countSkipped s n k).power = s.power ∧
    (countSkipped s n k).wakeLine = s.wakeLine ∧ (countSkipped s n k).settings = s.settings ∧
    (countSkipped s n k).powerOns = s.powerOns := by
  simp [countSkipped]

/-- `setClock` writes `clock` and `ports`. -/
@[simp] theorem setClock_keeps (s : State) (c : Clock) :
    (setClock s c).pending = s.pending ∧ (setClock s c).elapsed = s.elapsed ∧ (setClock s c).tickDue = s.tickDue ∧
    (setClock s c).boundary = s.boundary ∧ (setClock s c).untested = s.untested ∧ (setClock s c).sets = s.sets ∧
    (setClock s c).claims = s.claims ∧ (setClock s c).slots = s.slots ∧ (setClock s c).grant = s.grant ∧
    (setClock s c).sequence = s.sequence ∧ (setClock s c).drive = s.drive ∧ (setClock s c).encoder = s.encoder ∧
    (setClock s c).attempt = s.attempt ∧ (setClock s c).distance = s.distance ∧
    (setClock s c).requests = s.requests ∧ (setClock s c).track = s.track ∧ (setClock s c).station = s.station ∧
    (setClock s c).rounds = s.rounds ∧ (setClock s c).power = s.power ∧ (setClock s c).wakeLine = s.wakeLine ∧
    (setClock s c).settings = s.settings ∧ (setClock s c).powerOns = s.powerOns := by
  simp only [setClock]; split <;> simp

/-! ### Tracks and the queue -/

/-- `releaseTrack` writes `drive`, `distance`, `grant` and `track`. -/
@[simp] theorem releaseTrack_keeps (s : State) :
    (releaseTrack s).pending = s.pending ∧ (releaseTrack s).elapsed = s.elapsed ∧ (releaseTrack s).clock = s.clock ∧
    (releaseTrack s).tickDue = s.tickDue ∧ (releaseTrack s).boundary = s.boundary ∧
    (releaseTrack s).untested = s.untested ∧ (releaseTrack s).sets = s.sets ∧ (releaseTrack s).ports = s.ports ∧
    (releaseTrack s).claims = s.claims ∧ (releaseTrack s).slots = s.slots ∧ (releaseTrack s).sequence = s.sequence ∧
    (releaseTrack s).encoder = s.encoder ∧ (releaseTrack s).attempt = s.attempt ∧
    (releaseTrack s).requests = s.requests ∧ (releaseTrack s).station = s.station ∧
    (releaseTrack s).rounds = s.rounds ∧ (releaseTrack s).power = s.power ∧ (releaseTrack s).wakeLine = s.wakeLine ∧
    (releaseTrack s).settings = s.settings ∧ (releaseTrack s).powerOns = s.powerOns := by
  simp [releaseTrack]

/-- `endTrack` writes what `releaseTrack` writes, and `ports`. -/
@[simp] theorem endTrack_keeps (s : State) (c : Option Status) :
    (endTrack s c).pending = s.pending ∧ (endTrack s c).elapsed = s.elapsed ∧ (endTrack s c).clock = s.clock ∧
    (endTrack s c).tickDue = s.tickDue ∧ (endTrack s c).boundary = s.boundary ∧
    (endTrack s c).untested = s.untested ∧ (endTrack s c).sets = s.sets ∧ (endTrack s c).claims = s.claims ∧
    (endTrack s c).slots = s.slots ∧ (endTrack s c).sequence = s.sequence ∧ (endTrack s c).encoder = s.encoder ∧
    (endTrack s c).attempt = s.attempt ∧ (endTrack s c).requests = s.requests ∧ (endTrack s c).station = s.station ∧
    (endTrack s c).rounds = s.rounds ∧ (endTrack s c).power = s.power ∧ (endTrack s c).wakeLine = s.wakeLine ∧
    (endTrack s c).settings = s.settings ∧ (endTrack s c).powerOns = s.powerOns := by
  unfold endTrack; split
  · simp
  · split <;> simp

/-- `endHoldingTrack` writes what `endTrack` writes. -/
@[simp] theorem endHoldingTrack_keeps (s : State) (c : Status) :
    (endHoldingTrack s c).pending = s.pending ∧ (endHoldingTrack s c).elapsed = s.elapsed ∧
    (endHoldingTrack s c).clock = s.clock ∧ (endHoldingTrack s c).tickDue = s.tickDue ∧
    (endHoldingTrack s c).boundary = s.boundary ∧ (endHoldingTrack s c).untested = s.untested ∧
    (endHoldingTrack s c).sets = s.sets ∧ (endHoldingTrack s c).claims = s.claims ∧
    (endHoldingTrack s c).slots = s.slots ∧ (endHoldingTrack s c).sequence = s.sequence ∧
    (endHoldingTrack s c).encoder = s.encoder ∧ (endHoldingTrack s c).attempt = s.attempt ∧
    (endHoldingTrack s c).requests = s.requests ∧ (endHoldingTrack s c).station = s.station ∧
    (endHoldingTrack s c).rounds = s.rounds ∧ (endHoldingTrack s c).power = s.power ∧
    (endHoldingTrack s c).wakeLine = s.wakeLine ∧ (endHoldingTrack s c).settings = s.settings ∧
    (endHoldingTrack s c).powerOns = s.powerOns := by
  unfold endHoldingTrack; split <;> simp

/-- `holdTest` writes what `endTrack` writes. -/
@[simp] theorem holdTest_keeps (s : State) :
    (holdTest s).pending = s.pending ∧ (holdTest s).elapsed = s.elapsed ∧ (holdTest s).clock = s.clock ∧
    (holdTest s).tickDue = s.tickDue ∧ (holdTest s).boundary = s.boundary ∧ (holdTest s).untested = s.untested ∧
    (holdTest s).sets = s.sets ∧ (holdTest s).claims = s.claims ∧ (holdTest s).slots = s.slots ∧
    (holdTest s).sequence = s.sequence ∧ (holdTest s).encoder = s.encoder ∧ (holdTest s).attempt = s.attempt ∧
    (holdTest s).requests = s.requests ∧ (holdTest s).station = s.station ∧ (holdTest s).rounds = s.rounds ∧
    (holdTest s).power = s.power ∧ (holdTest s).wakeLine = s.wakeLine ∧ (holdTest s).settings = s.settings ∧
    (holdTest s).powerOns = s.powerOns := by
  unfold holdTest; split <;> simp

/-- `enterQueued` writes the slot, the counter, the power state and what a track's ending writes. -/
@[simp] theorem enterQueued_keeps (s : State) (i : SlotNo) (a : Aim) :
    (enterQueued s i a).pending = s.pending ∧ (enterQueued s i a).elapsed = s.elapsed ∧
    (enterQueued s i a).clock = s.clock ∧ (enterQueued s i a).tickDue = s.tickDue ∧
    (enterQueued s i a).boundary = s.boundary ∧ (enterQueued s i a).untested = s.untested ∧
    (enterQueued s i a).sets = s.sets ∧ (enterQueued s i a).claims = s.claims ∧
    (enterQueued s i a).encoder = s.encoder ∧ (enterQueued s i a).attempt = s.attempt ∧
    (enterQueued s i a).requests = s.requests ∧ (enterQueued s i a).station = s.station ∧
    (enterQueued s i a).rounds = s.rounds ∧ (enterQueued s i a).wakeLine = s.wakeLine ∧
    (enterQueued s i a).settings = s.settings ∧ (enterQueued s i a).powerOns = s.powerOns := by
  simp [enterQueued]

/-- `placeAim` writes what `enterQueued` writes. -/
@[simp] theorem placeAim_keeps (s : State) (a : Aim) :
    (placeAim s a).pending = s.pending ∧ (placeAim s a).elapsed = s.elapsed ∧ (placeAim s a).clock = s.clock ∧
    (placeAim s a).tickDue = s.tickDue ∧ (placeAim s a).boundary = s.boundary ∧
    (placeAim s a).untested = s.untested ∧ (placeAim s a).sets = s.sets ∧ (placeAim s a).claims = s.claims ∧
    (placeAim s a).encoder = s.encoder ∧ (placeAim s a).attempt = s.attempt ∧ (placeAim s a).requests = s.requests ∧
    (placeAim s a).station = s.station ∧ (placeAim s a).rounds = s.rounds ∧ (placeAim s a).wakeLine = s.wakeLine ∧
    (placeAim s a).settings = s.settings ∧ (placeAim s a).powerOns = s.powerOns := by
  unfold placeAim; split <;> simp

/-- `freeSlot` writes `slots`, and `track` for the item *aims waiting*. -/
@[simp] theorem freeSlot_keeps (s : State) (i : SlotNo) :
    (freeSlot s i).pending = s.pending ∧ (freeSlot s i).elapsed = s.elapsed ∧ (freeSlot s i).clock = s.clock ∧
    (freeSlot s i).tickDue = s.tickDue ∧ (freeSlot s i).boundary = s.boundary ∧
    (freeSlot s i).untested = s.untested ∧ (freeSlot s i).sets = s.sets ∧ (freeSlot s i).ports = s.ports ∧
    (freeSlot s i).claims = s.claims ∧ (freeSlot s i).grant = s.grant ∧ (freeSlot s i).sequence = s.sequence ∧
    (freeSlot s i).drive = s.drive ∧ (freeSlot s i).encoder = s.encoder ∧ (freeSlot s i).attempt = s.attempt ∧
    (freeSlot s i).distance = s.distance ∧ (freeSlot s i).requests = s.requests ∧
    (freeSlot s i).station = s.station ∧ (freeSlot s i).rounds = s.rounds ∧ (freeSlot s i).power = s.power ∧
    (freeSlot s i).wakeLine = s.wakeLine ∧ (freeSlot s i).settings = s.settings ∧
    (freeSlot s i).powerOns = s.powerOns := by
  simp [freeSlot]

/-- `suspendTrack` writes what `releaseTrack` writes. -/
@[simp] theorem suspendTrack_keeps (s : State) :
    (suspendTrack s).pending = s.pending ∧ (suspendTrack s).elapsed = s.elapsed ∧ (suspendTrack s).clock = s.clock ∧
    (suspendTrack s).tickDue = s.tickDue ∧ (suspendTrack s).boundary = s.boundary ∧
    (suspendTrack s).untested = s.untested ∧ (suspendTrack s).sets = s.sets ∧ (suspendTrack s).ports = s.ports ∧
    (suspendTrack s).claims = s.claims ∧ (suspendTrack s).slots = s.slots ∧ (suspendTrack s).sequence = s.sequence ∧
    (suspendTrack s).encoder = s.encoder ∧ (suspendTrack s).attempt = s.attempt ∧
    (suspendTrack s).requests = s.requests ∧ (suspendTrack s).station = s.station ∧
    (suspendTrack s).rounds = s.rounds ∧ (suspendTrack s).power = s.power ∧ (suspendTrack s).wakeLine = s.wakeLine ∧
    (suspendTrack s).settings = s.settings ∧ (suspendTrack s).powerOns = s.powerOns := by
  simp [suspendTrack]

/-- `trackSeek` writes what `endTrack` writes. -/
@[simp] theorem trackSeek_keeps (s : State) (t : Track) (c : Pointing) (z : Int) (u : Cursor) :
    (trackSeek s t c z u).pending = s.pending ∧ (trackSeek s t c z u).elapsed = s.elapsed ∧
    (trackSeek s t c z u).clock = s.clock ∧ (trackSeek s t c z u).tickDue = s.tickDue ∧
    (trackSeek s t c z u).boundary = s.boundary ∧ (trackSeek s t c z u).untested = s.untested ∧
    (trackSeek s t c z u).sets = s.sets ∧ (trackSeek s t c z u).claims = s.claims ∧
    (trackSeek s t c z u).slots = s.slots ∧ (trackSeek s t c z u).sequence = s.sequence ∧
    (trackSeek s t c z u).encoder = s.encoder ∧ (trackSeek s t c z u).attempt = s.attempt ∧
    (trackSeek s t c z u).requests = s.requests ∧ (trackSeek s t c z u).station = s.station ∧
    (trackSeek s t c z u).rounds = s.rounds ∧ (trackSeek s t c z u).power = s.power ∧
    (trackSeek s t c z u).wakeLine = s.wakeLine ∧ (trackSeek s t c z u).settings = s.settings ∧
    (trackSeek s t c z u).powerOns = s.powerOns := by
  unfold trackSeek; split <;> simp

/-- `trackAcquire` writes what `endTrack` writes. -/
@[simp] theorem trackAcquire_keeps (s : State) (t : Track) :
    (trackAcquire s t).pending = s.pending ∧ (trackAcquire s t).elapsed = s.elapsed ∧
    (trackAcquire s t).clock = s.clock ∧ (trackAcquire s t).tickDue = s.tickDue ∧
    (trackAcquire s t).boundary = s.boundary ∧ (trackAcquire s t).untested = s.untested ∧
    (trackAcquire s t).sets = s.sets ∧ (trackAcquire s t).claims = s.claims ∧ (trackAcquire s t).slots = s.slots ∧
    (trackAcquire s t).sequence = s.sequence ∧ (trackAcquire s t).encoder = s.encoder ∧
    (trackAcquire s t).attempt = s.attempt ∧ (trackAcquire s t).requests = s.requests ∧
    (trackAcquire s t).station = s.station ∧ (trackAcquire s t).rounds = s.rounds ∧
    (trackAcquire s t).power = s.power ∧ (trackAcquire s t).wakeLine = s.wakeLine ∧
    (trackAcquire s t).settings = s.settings ∧ (trackAcquire s t).powerOns = s.powerOns := by
  unfold trackAcquire; split
  · simp
  · split <;> simp

/-- `takeAxes` writes what `endTrack` writes. -/
@[simp] theorem takeAxes_keeps (s : State) :
    (takeAxes s).pending = s.pending ∧ (takeAxes s).elapsed = s.elapsed ∧ (takeAxes s).clock = s.clock ∧
    (takeAxes s).tickDue = s.tickDue ∧ (takeAxes s).boundary = s.boundary ∧ (takeAxes s).untested = s.untested ∧
    (takeAxes s).sets = s.sets ∧ (takeAxes s).claims = s.claims ∧ (takeAxes s).slots = s.slots ∧
    (takeAxes s).sequence = s.sequence ∧ (takeAxes s).encoder = s.encoder ∧ (takeAxes s).attempt = s.attempt ∧
    (takeAxes s).requests = s.requests ∧ (takeAxes s).station = s.station ∧ (takeAxes s).rounds = s.rounds ∧
    (takeAxes s).power = s.power ∧ (takeAxes s).wakeLine = s.wakeLine ∧ (takeAxes s).settings = s.settings ∧
    (takeAxes s).powerOns = s.powerOns := by
  unfold takeAxes; split <;> simp

/-- `resumeTrack` writes what `endTrack` writes. -/
@[simp] theorem resumeTrack_keeps (s : State) :
    (resumeTrack s).pending = s.pending ∧ (resumeTrack s).elapsed = s.elapsed ∧ (resumeTrack s).clock = s.clock ∧
    (resumeTrack s).tickDue = s.tickDue ∧ (resumeTrack s).boundary = s.boundary ∧
    (resumeTrack s).untested = s.untested ∧ (resumeTrack s).sets = s.sets ∧ (resumeTrack s).claims = s.claims ∧
    (resumeTrack s).slots = s.slots ∧ (resumeTrack s).sequence = s.sequence ∧ (resumeTrack s).encoder = s.encoder ∧
    (resumeTrack s).attempt = s.attempt ∧ (resumeTrack s).requests = s.requests ∧
    (resumeTrack s).station = s.station ∧ (resumeTrack s).rounds = s.rounds ∧ (resumeTrack s).power = s.power ∧
    (resumeTrack s).wakeLine = s.wakeLine ∧ (resumeTrack s).settings = s.settings ∧
    (resumeTrack s).powerOns = s.powerOns := by
  simp only [resumeTrack]; split
  · simp
  · split <;> simp

/-! ### Completion and dispatch -/

/-- `deliver` writes `slots`, `track` and `ports`. -/
@[simp] theorem deliver_keeps (s : State) (i : SlotNo) (a : Aim) (st : Status) :
    (deliver s i a st).pending = s.pending ∧ (deliver s i a st).elapsed = s.elapsed ∧
    (deliver s i a st).clock = s.clock ∧ (deliver s i a st).tickDue = s.tickDue ∧
    (deliver s i a st).boundary = s.boundary ∧ (deliver s i a st).untested = s.untested ∧
    (deliver s i a st).sets = s.sets ∧ (deliver s i a st).claims = s.claims ∧ (deliver s i a st).grant = s.grant ∧
    (deliver s i a st).sequence = s.sequence ∧ (deliver s i a st).drive = s.drive ∧
    (deliver s i a st).encoder = s.encoder ∧ (deliver s i a st).attempt = s.attempt ∧
    (deliver s i a st).distance = s.distance ∧ (deliver s i a st).requests = s.requests ∧
    (deliver s i a st).station = s.station ∧ (deliver s i a st).rounds = s.rounds ∧
    (deliver s i a st).power = s.power ∧ (deliver s i a st).wakeLine = s.wakeLine ∧
    (deliver s i a st).settings = s.settings ∧ (deliver s i a st).powerOns = s.powerOns := by
  simp only [deliver]; split <;> simp

/-- `applyCheck` writes `station` and `ports`. -/
@[simp] theorem applyCheck_keeps (s : State) (c : Check) (st : Status) :
    (applyCheck s c st).pending = s.pending ∧ (applyCheck s c st).elapsed = s.elapsed ∧
    (applyCheck s c st).clock = s.clock ∧ (applyCheck s c st).tickDue = s.tickDue ∧
    (applyCheck s c st).boundary = s.boundary ∧ (applyCheck s c st).untested = s.untested ∧
    (applyCheck s c st).sets = s.sets ∧ (applyCheck s c st).claims = s.claims ∧ (applyCheck s c st).slots = s.slots ∧
    (applyCheck s c st).grant = s.grant ∧ (applyCheck s c st).sequence = s.sequence ∧
    (applyCheck s c st).drive = s.drive ∧ (applyCheck s c st).encoder = s.encoder ∧
    (applyCheck s c st).attempt = s.attempt ∧ (applyCheck s c st).distance = s.distance ∧
    (applyCheck s c st).requests = s.requests ∧ (applyCheck s c st).track = s.track ∧
    (applyCheck s c st).rounds = s.rounds ∧ (applyCheck s c st).power = s.power ∧
    (applyCheck s c st).wakeLine = s.wakeLine ∧ (applyCheck s c st).settings = s.settings ∧
    (applyCheck s c st).powerOns = s.powerOns := by
  cases st <;> simp [applyCheck] <;> split <;> simp

/-- `concludeCheck` writes `station` and `ports`. -/
@[simp] theorem concludeCheck_keeps (s : State) (c : Check) :
    (concludeCheck s c).pending = s.pending ∧ (concludeCheck s c).elapsed = s.elapsed ∧
    (concludeCheck s c).clock = s.clock ∧ (concludeCheck s c).tickDue = s.tickDue ∧
    (concludeCheck s c).boundary = s.boundary ∧ (concludeCheck s c).untested = s.untested ∧
    (concludeCheck s c).sets = s.sets ∧ (concludeCheck s c).claims = s.claims ∧ (concludeCheck s c).slots = s.slots ∧
    (concludeCheck s c).grant = s.grant ∧ (concludeCheck s c).sequence = s.sequence ∧
    (concludeCheck s c).drive = s.drive ∧ (concludeCheck s c).encoder = s.encoder ∧
    (concludeCheck s c).attempt = s.attempt ∧ (concludeCheck s c).distance = s.distance ∧
    (concludeCheck s c).requests = s.requests ∧ (concludeCheck s c).track = s.track ∧
    (concludeCheck s c).rounds = s.rounds ∧ (concludeCheck s c).power = s.power ∧
    (concludeCheck s c).wakeLine = s.wakeLine ∧ (concludeCheck s c).settings = s.settings ∧
    (concludeCheck s c).powerOns = s.powerOns := by
  simp [concludeCheck]

/-- `checkAimCompletes` writes `station` and `ports`. -/
@[simp] theorem checkAimCompletes_keeps (s : State) (id : Nat) (st : Status) (z : Option Int) :
    (checkAimCompletes s id st z).pending = s.pending ∧ (checkAimCompletes s id st z).elapsed = s.elapsed ∧
    (checkAimCompletes s id st z).clock = s.clock ∧ (checkAimCompletes s id st z).tickDue = s.tickDue ∧
    (checkAimCompletes s id st z).boundary = s.boundary ∧ (checkAimCompletes s id st z).untested = s.untested ∧
    (checkAimCompletes s id st z).sets = s.sets ∧ (checkAimCompletes s id st z).claims = s.claims ∧
    (checkAimCompletes s id st z).slots = s.slots ∧ (checkAimCompletes s id st z).grant = s.grant ∧
    (checkAimCompletes s id st z).sequence = s.sequence ∧ (checkAimCompletes s id st z).drive = s.drive ∧
    (checkAimCompletes s id st z).encoder = s.encoder ∧ (checkAimCompletes s id st z).attempt = s.attempt ∧
    (checkAimCompletes s id st z).distance = s.distance ∧ (checkAimCompletes s id st z).requests = s.requests ∧
    (checkAimCompletes s id st z).track = s.track ∧ (checkAimCompletes s id st z).rounds = s.rounds ∧
    (checkAimCompletes s id st z).power = s.power ∧ (checkAimCompletes s id st z).wakeLine = s.wakeLine ∧
    (checkAimCompletes s id st z).settings = s.settings ∧ (checkAimCompletes s id st z).powerOns = s.powerOns := by
  unfold checkAimCompletes; split
  · simp
  · simp only []; split <;> simp

/-- `complete` writes the slot, the records, the round's counts and the station. -/
@[simp] theorem complete_keeps (s : State) (i : SlotNo) (a : Aim) (st : Status) :
    (complete s i a st).pending = s.pending ∧ (complete s i a st).elapsed = s.elapsed ∧
    (complete s i a st).clock = s.clock ∧ (complete s i a st).tickDue = s.tickDue ∧
    (complete s i a st).boundary = s.boundary ∧ (complete s i a st).untested = s.untested ∧
    (complete s i a st).sets = s.sets ∧ (complete s i a st).claims = s.claims ∧ (complete s i a st).grant = s.grant ∧
    (complete s i a st).sequence = s.sequence ∧ (complete s i a st).drive = s.drive ∧
    (complete s i a st).encoder = s.encoder ∧ (complete s i a st).attempt = s.attempt ∧
    (complete s i a st).distance = s.distance ∧ (complete s i a st).requests = s.requests ∧
    (complete s i a st).power = s.power ∧ (complete s i a st).wakeLine = s.wakeLine ∧
    (complete s i a st).settings = s.settings ∧ (complete s i a st).powerOns = s.powerOns := by
  unfold complete; split <;> simp

/-- `decideCourse` writes what `complete` writes, and `grant`. -/
@[simp] theorem decideCourse_keeps (s : State) (i : SlotNo) (a : Aim) (st : Status) :
    (decideCourse s i a st).pending = s.pending ∧ (decideCourse s i a st).elapsed = s.elapsed ∧
    (decideCourse s i a st).clock = s.clock ∧ (decideCourse s i a st).tickDue = s.tickDue ∧
    (decideCourse s i a st).boundary = s.boundary ∧ (decideCourse s i a st).untested = s.untested ∧
    (decideCourse s i a st).sets = s.sets ∧ (decideCourse s i a st).claims = s.claims ∧
    (decideCourse s i a st).sequence = s.sequence ∧ (decideCourse s i a st).drive = s.drive ∧
    (decideCourse s i a st).encoder = s.encoder ∧ (decideCourse s i a st).attempt = s.attempt ∧
    (decideCourse s i a st).distance = s.distance ∧ (decideCourse s i a st).requests = s.requests ∧
    (decideCourse s i a st).power = s.power ∧ (decideCourse s i a st).wakeLine = s.wakeLine ∧
    (decideCourse s i a st).settings = s.settings ∧ (decideCourse s i a st).powerOns = s.powerOns := by
  simp only [decideCourse]; split
  · split <;> simp
  · simp

/-- `handObservation` writes what `observeEntry` writes. -/
@[simp] theorem handObservation_keeps (s : State) (x : AimTarget) (o : Observation) :
    (handObservation s x o).pending = s.pending ∧ (handObservation s x o).elapsed = s.elapsed ∧
    (handObservation s x o).clock = s.clock ∧ (handObservation s x o).tickDue = s.tickDue ∧
    (handObservation s x o).boundary = s.boundary ∧ (handObservation s x o).untested = s.untested ∧
    (handObservation s x o).slots = s.slots ∧ (handObservation s x o).grant = s.grant ∧
    (handObservation s x o).sequence = s.sequence ∧ (handObservation s x o).drive = s.drive ∧
    (handObservation s x o).encoder = s.encoder ∧ (handObservation s x o).attempt = s.attempt ∧
    (handObservation s x o).distance = s.distance ∧ (handObservation s x o).requests = s.requests ∧
    (handObservation s x o).track = s.track ∧ (handObservation s x o).station = s.station ∧
    (handObservation s x o).rounds = s.rounds ∧ (handObservation s x o).power = s.power ∧
    (handObservation s x o).wakeLine = s.wakeLine ∧ (handObservation s x o).settings = s.settings ∧
    (handObservation s x o).powerOns = s.powerOns := by
  unfold handObservation; split <;> simp

/-- `endAttempt` writes what `decideCourse` writes, the table, the claims and the attempt. -/
@[simp] theorem endAttempt_keeps (s : State) (st : Status) (d : Option Nat) :
    (endAttempt s st d).pending = s.pending ∧ (endAttempt s st d).elapsed = s.elapsed ∧
    (endAttempt s st d).clock = s.clock ∧ (endAttempt s st d).tickDue = s.tickDue ∧
    (endAttempt s st d).boundary = s.boundary ∧ (endAttempt s st d).untested = s.untested ∧
    (endAttempt s st d).sequence = s.sequence ∧ (endAttempt s st d).drive = s.drive ∧
    (endAttempt s st d).encoder = s.encoder ∧ (endAttempt s st d).distance = s.distance ∧
    (endAttempt s st d).requests = s.requests ∧ (endAttempt s st d).power = s.power ∧
    (endAttempt s st d).wakeLine = s.wakeLine ∧ (endAttempt s st d).settings = s.settings ∧
    (endAttempt s st d).powerOns = s.powerOns := by
  unfold endAttempt; split
  · simp
  · split
    · simp
    · split <;> simp

/-- After an attempt's ending no attempt is in flight. -/
theorem endAttempt_attempt (s : State) (st : Status) (d : Option Nat) (h : s.attempt.isSome) :
    (endAttempt s st d).attempt = none := by
  unfold endAttempt; split
  · rename_i hn; simp [hn] at h
  · split
    · rfl
    · split <;> simp

/-- `touchTarget` writes `sets` alone. -/
@[simp] theorem touchTarget_keeps (s : State) (x : AimTarget) :
    (touchTarget s x).pending = s.pending ∧ (touchTarget s x).elapsed = s.elapsed ∧
    (touchTarget s x).clock = s.clock ∧ (touchTarget s x).tickDue = s.tickDue ∧
    (touchTarget s x).boundary = s.boundary ∧ (touchTarget s x).untested = s.untested ∧
    (touchTarget s x).ports = s.ports ∧ (touchTarget s x).claims = s.claims ∧ (touchTarget s x).slots = s.slots ∧
    (touchTarget s x).grant = s.grant ∧ (touchTarget s x).sequence = s.sequence ∧ (touchTarget s x).drive = s.drive ∧
    (touchTarget s x).encoder = s.encoder ∧ (touchTarget s x).attempt = s.attempt ∧
    (touchTarget s x).distance = s.distance ∧ (touchTarget s x).requests = s.requests ∧
    (touchTarget s x).track = s.track ∧ (touchTarget s x).station = s.station ∧ (touchTarget s x).rounds = s.rounds ∧
    (touchTarget s x).power = s.power ∧ (touchTarget s x).wakeLine = s.wakeLine ∧
    (touchTarget s x).settings = s.settings ∧ (touchTarget s x).powerOns = s.powerOns := by
  unfold touchTarget; split <;> simp

/-- `beginAttempt` writes `attempt` and `drive`. -/
@[simp] theorem beginAttempt_keeps (s : State) (i : SlotNo) (x : Solution) :
    (beginAttempt s i x).pending = s.pending ∧ (beginAttempt s i x).elapsed = s.elapsed ∧
    (beginAttempt s i x).clock = s.clock ∧ (beginAttempt s i x).tickDue = s.tickDue ∧
    (beginAttempt s i x).boundary = s.boundary ∧ (beginAttempt s i x).untested = s.untested ∧
    (beginAttempt s i x).sets = s.sets ∧ (beginAttempt s i x).ports = s.ports ∧
    (beginAttempt s i x).claims = s.claims ∧ (beginAttempt s i x).slots = s.slots ∧
    (beginAttempt s i x).grant = s.grant ∧ (beginAttempt s i x).sequence = s.sequence ∧
    (beginAttempt s i x).encoder = s.encoder ∧ (beginAttempt s i x).distance = s.distance ∧
    (beginAttempt s i x).requests = s.requests ∧ (beginAttempt s i x).track = s.track ∧
    (beginAttempt s i x).station = s.station ∧ (beginAttempt s i x).rounds = s.rounds ∧
    (beginAttempt s i x).power = s.power ∧ (beginAttempt s i x).wakeLine = s.wakeLine ∧
    (beginAttempt s i x).settings = s.settings ∧ (beginAttempt s i x).powerOns = s.powerOns := by
  simp [beginAttempt]

/-- `dispatch` writes what `complete` and `beginAttempt` write, the grant and the table. -/
@[simp] theorem dispatch_keeps (s : State) (i : SlotNo) (a : Aim) :
    (dispatch s i a).pending = s.pending ∧ (dispatch s i a).elapsed = s.elapsed ∧ (dispatch s i a).clock = s.clock ∧
    (dispatch s i a).tickDue = s.tickDue ∧ (dispatch s i a).boundary = s.boundary ∧
    (dispatch s i a).untested = s.untested ∧ (dispatch s i a).claims = s.claims ∧
    (dispatch s i a).sequence = s.sequence ∧ (dispatch s i a).encoder = s.encoder ∧
    (dispatch s i a).distance = s.distance ∧ (dispatch s i a).requests = s.requests ∧
    (dispatch s i a).power = s.power ∧ (dispatch s i a).wakeLine = s.wakeLine ∧
    (dispatch s i a).settings = s.settings ∧ (dispatch s i a).powerOns = s.powerOns := by
  simp only [dispatch]; split
  · simp
  · split <;> simp

/-! ### Rounds and what follows from an event -/

/-- `feedStep` writes what `placeAim` writes, and `rounds`. -/
@[simp] theorem feedStep_keeps (s : State) (n : RoundNo) :
    (feedStep s n).pending = s.pending ∧ (feedStep s n).elapsed = s.elapsed ∧ (feedStep s n).clock = s.clock ∧
    (feedStep s n).tickDue = s.tickDue ∧ (feedStep s n).boundary = s.boundary ∧
    (feedStep s n).untested = s.untested ∧ (feedStep s n).sets = s.sets ∧ (feedStep s n).claims = s.claims ∧
    (feedStep s n).encoder = s.encoder ∧ (feedStep s n).attempt = s.attempt ∧ (feedStep s n).requests = s.requests ∧
    (feedStep s n).station = s.station ∧ (feedStep s n).wakeLine = s.wakeLine ∧
    (feedStep s n).settings = s.settings ∧ (feedStep s n).powerOns = s.powerOns := by
  simp only [feedStep]; split
  · simp
  · split <;> simp

/-- `feedRound` writes what `feedStep` writes. -/
@[simp] theorem feedRound_keeps (fuel : Nat) (s : State) (n : RoundNo) :
    (feedRound fuel s n).pending = s.pending ∧ (feedRound fuel s n).elapsed = s.elapsed ∧
    (feedRound fuel s n).clock = s.clock ∧ (feedRound fuel s n).tickDue = s.tickDue ∧
    (feedRound fuel s n).boundary = s.boundary ∧ (feedRound fuel s n).untested = s.untested ∧
    (feedRound fuel s n).sets = s.sets ∧ (feedRound fuel s n).claims = s.claims ∧
    (feedRound fuel s n).encoder = s.encoder ∧ (feedRound fuel s n).attempt = s.attempt ∧
    (feedRound fuel s n).requests = s.requests ∧ (feedRound fuel s n).station = s.station ∧
    (feedRound fuel s n).wakeLine = s.wakeLine ∧ (feedRound fuel s n).settings = s.settings ∧
    (feedRound fuel s n).powerOns = s.powerOns := by
  induction fuel generalizing s with
  | zero => simp [feedRound]
  | succ k ih => unfold feedRound; split <;> simp [ih]

/-- `postSummary` writes `ports` alone. -/
@[simp] theorem postSummary_keeps (s : State) (n : RoundNo) (r : Round) :
    (postSummary s n r).pending = s.pending ∧ (postSummary s n r).elapsed = s.elapsed ∧
    (postSummary s n r).clock = s.clock ∧ (postSummary s n r).tickDue = s.tickDue ∧
    (postSummary s n r).boundary = s.boundary ∧ (postSummary s n r).untested = s.untested ∧
    (postSummary s n r).sets = s.sets ∧ (postSummary s n r).claims = s.claims ∧ (postSummary s n r).slots = s.slots ∧
    (postSummary s n r).grant = s.grant ∧ (postSummary s n r).sequence = s.sequence ∧
    (postSummary s n r).drive = s.drive ∧ (postSummary s n r).encoder = s.encoder ∧
    (postSummary s n r).attempt = s.attempt ∧ (postSummary s n r).distance = s.distance ∧
    (postSummary s n r).requests = s.requests ∧ (postSummary s n r).track = s.track ∧
    (postSummary s n r).station = s.station ∧ (postSummary s n r).rounds = s.rounds ∧
    (postSummary s n r).power = s.power ∧ (postSummary s n r).wakeLine = s.wakeLine ∧
    (postSummary s n r).settings = s.settings ∧ (postSummary s n r).powerOns = s.powerOns := by
  simp [postSummary]

/-- `endRun` writes `ports` and `rounds`. -/
@[simp] theorem endRun_keeps (s : State) (n : RoundNo) :
    (endRun s n).pending = s.pending ∧ (endRun s n).elapsed = s.elapsed ∧ (endRun s n).clock = s.clock ∧
    (endRun s n).tickDue = s.tickDue ∧ (endRun s n).boundary = s.boundary ∧ (endRun s n).untested = s.untested ∧
    (endRun s n).sets = s.sets ∧ (endRun s n).claims = s.claims ∧ (endRun s n).slots = s.slots ∧
    (endRun s n).grant = s.grant ∧ (endRun s n).sequence = s.sequence ∧ (endRun s n).drive = s.drive ∧
    (endRun s n).encoder = s.encoder ∧ (endRun s n).attempt = s.attempt ∧ (endRun s n).distance = s.distance ∧
    (endRun s n).requests = s.requests ∧ (endRun s n).track = s.track ∧ (endRun s n).station = s.station ∧
    (endRun s n).power = s.power ∧ (endRun s n).wakeLine = s.wakeLine ∧ (endRun s n).settings = s.settings ∧
    (endRun s n).powerOns = s.powerOns := by
  simp [endRun]

/-- `serveRound` writes what `feedStep` writes. -/
@[simp] theorem serveRound_keeps (s : State) (n : RoundNo) :
    (serveRound s n).pending = s.pending ∧ (serveRound s n).elapsed = s.elapsed ∧ (serveRound s n).clock = s.clock ∧
    (serveRound s n).tickDue = s.tickDue ∧ (serveRound s n).boundary = s.boundary ∧
    (serveRound s n).untested = s.untested ∧ (serveRound s n).sets = s.sets ∧ (serveRound s n).claims = s.claims ∧
    (serveRound s n).encoder = s.encoder ∧ (serveRound s n).attempt = s.attempt ∧
    (serveRound s n).requests = s.requests ∧ (serveRound s n).station = s.station ∧
    (serveRound s n).wakeLine = s.wakeLine ∧ (serveRound s n).settings = s.settings ∧
    (serveRound s n).powerOns = s.powerOns := by
  simp only [serveRound]; split <;> simp

/-- `serveRounds` writes what `feedStep` writes. -/
@[simp] theorem serveRounds_keeps (s : State) :
    (serveRounds s).pending = s.pending ∧ (serveRounds s).elapsed = s.elapsed ∧ (serveRounds s).clock = s.clock ∧
    (serveRounds s).tickDue = s.tickDue ∧ (serveRounds s).boundary = s.boundary ∧
    (serveRounds s).untested = s.untested ∧ (serveRounds s).sets = s.sets ∧ (serveRounds s).claims = s.claims ∧
    (serveRounds s).encoder = s.encoder ∧ (serveRounds s).attempt = s.attempt ∧
    (serveRounds s).requests = s.requests ∧ (serveRounds s).station = s.station ∧
    (serveRounds s).wakeLine = s.wakeLine ∧ (serveRounds s).settings = s.settings ∧
    (serveRounds s).powerOns = s.powerOns := by
  unfold serveRounds; simp only [serveRound_keeps, and_self]

/-- The arbiter acts in one of four ways: it suspends or resumes a track that holds the axes, dispatches an aim, or gives
the axes to a waiting track start. -/
theorem arbitrate_cases {s t : State} (h : arbitrate s = some t) :
    s.grant.active = none ∧
    ((s.grant.track = .holding false ∧ t = suspendTrack s) ∨ (s.grant.track = .holding true ∧ t = resumeTrack s) ∨
      (∃ n, s.grant.track = .waiting n ∧ mayChoose s = true ∧ t = takeAxes s) ∨
      (∃ i a, bestQueued s = some (i, a) ∧ mayChoose s = true ∧ s.grant.track ≠ .holding false ∧ t = dispatch s i a)) := by
  unfold arbitrate at h
  split at h
  · cases h
  · rename_i ha
    refine ⟨by simpa using ha, ?_⟩
    split at h
    · rename_i hg
      split at h
      · cases h; exact Or.inl ⟨hg, rfl⟩
      · cases h
    · rename_i hg
      split at h
      · rename_i hb
        split at h
        · split at h
          · rename_i hm
            cases h
            exact Or.inr (Or.inr (Or.inr ⟨_, _, hb, hm, by simp [hg], rfl⟩))
          · cases h
        · cases h; exact Or.inr (Or.inl ⟨hg, rfl⟩)
      · cases h; exact Or.inr (Or.inl ⟨hg, rfl⟩)
    · rename_i n hg
      split at h
      · rename_i hm
        split at h
        · rename_i hb
          split at h
          · cases h; exact Or.inr (Or.inr (Or.inl ⟨n, hg, hm, rfl⟩))
          · cases h; exact Or.inr (Or.inr (Or.inr ⟨_, _, hb, hm, by simp [hg], rfl⟩))
        · cases h; exact Or.inr (Or.inr (Or.inl ⟨n, hg, hm, rfl⟩))
      · cases h
    · rename_i hg
      split at h
      · rename_i hm
        rw [Option.map_eq_some_iff] at h
        obtain ⟨⟨i, a⟩, hb, rfl⟩ := h
        exact Or.inr (Or.inr (Or.inr ⟨i, a, hb, hm, by simp [hg], rfl⟩))
      · cases h

/-- A condition kept by serving the rounds, by the arbiter's acts and by the idleness test is kept by what follows from
an event. -/
theorem afterEvent_induct (P : State → Prop) (serve : ∀ s n, P s → P (serveRound s n))
    (act : ∀ s t, P s → arbitrate s = some t → P t) (idle : ∀ s, P s → P (idleTest s)) {s : State} (h : P s) :
    P (afterEvent s) := by
  have rounds : ∀ s, P s → P (serveRounds s) := by
    intro s h; rw [serveRounds]; exact serve _ _ (serve _ _ (serve _ _ (serve _ _ h)))
  have follow : ∀ fuel s, P s → P (followOn fuel s) := by
    intro fuel
    induction fuel with
    | zero => intro s h; rw [followOn]; exact idle s h
    | succ k ih =>
      intro s h
      rw [followOn]
      split
      · rename_i hs
        exact ih _ (act _ _ (rounds s h) hs)
      · exact idle _ (rounds s h)
  rw [afterEvent]; exact follow followTurns s h

/-- What follows from an event leaves the queue of commands, time, claims, encoders, settings and lines as they were. -/
@[simp] theorem afterEvent_keeps (s : State) :
    (afterEvent s).pending = s.pending ∧ (afterEvent s).elapsed = s.elapsed ∧ (afterEvent s).clock = s.clock ∧
    (afterEvent s).tickDue = s.tickDue ∧ (afterEvent s).boundary = s.boundary ∧
    (afterEvent s).untested = s.untested ∧ (afterEvent s).claims = s.claims ∧ (afterEvent s).encoder = s.encoder ∧
    (afterEvent s).requests = s.requests ∧ (afterEvent s).wakeLine = s.wakeLine ∧
    (afterEvent s).settings = s.settings ∧ (afterEvent s).powerOns = s.powerOns := by
  refine afterEvent_induct (fun t => t.pending = s.pending ∧ t.elapsed = s.elapsed ∧ t.clock = s.clock ∧ t.tickDue = s.tickDue ∧ t.boundary = s.boundary ∧ t.untested = s.untested ∧ t.claims = s.claims ∧ t.encoder = s.encoder ∧ t.requests = s.requests ∧ t.wakeLine = s.wakeLine ∧ t.settings = s.settings ∧ t.powerOns = s.powerOns) ?_ ?_ ?_ ?_
  · intro t n h; simp only [serveRound_keeps]; exact h
  · intro t u h hu
    obtain ⟨-, h1 | h1 | h1 | h1⟩ := arbitrate_cases hu
    · obtain ⟨-, rfl⟩ := h1; simp only [suspendTrack_keeps]; exact h
    · obtain ⟨-, rfl⟩ := h1; simp only [resumeTrack_keeps]; exact h
    · obtain ⟨_, -, -, rfl⟩ := h1; simp only [takeAxes_keeps]; exact h
    · obtain ⟨_, _, -, -, -, rfl⟩ := h1; simp only [dispatch_keeps]; exact h
  · intro t h; simp only [idleTest_keeps]; exact h
  · simp

/-! ### Requests and steps -/

/-- A request transaction answers in one of three ways: nothing for an incomplete frame; the transaction status alone for
a discarded one; the answer to a taken request. -/
theorem request_cases (s : State) (f : Frame) (k : RequestKind) (act : State → State) :
    (f.complete = false ∧ request s f k act = .next s) ∨
    (∃ st, transactionStatus s f k = st ∧ st ≠ .accepted ∧ request s f k act = .next (clockOut s f.port (frameOut f st))) ∨
    (f.complete = true ∧ transactionStatus s f k = .accepted ∧
      request s f k act = .next (answerRequest (clockOut s f.port (frameOut f .accepted)) f k act)) := by
  cases hc : f.complete
  · exact Or.inl ⟨rfl, by simp [request, hc]⟩
  · cases hs : transactionStatus s f k
    · exact Or.inr (Or.inr ⟨rfl, rfl, by simp [request, hc, hs]⟩)
    · exact Or.inr (Or.inl ⟨_, rfl, by simp, by simp [request, hc, hs]⟩)
    · exact Or.inr (Or.inl ⟨_, rfl, by simp, by simp [request, hc, hs]⟩)

/-- A taken request is refused NOT_PERMITTED or acts. -/
theorem answerRequest_cases (s : State) (f : Frame) (k : RequestKind) (act : State → State) :
    answerRequest s f k act = refuse s f .notPermitted ∨ answerRequest s f k act = act s := by
  unfold answerRequest; split
  · exact Or.inr rfl
  · exact Or.inl rfl

@[simp] theorem permissions_clockOut (s : State) (p : Port) (bytes : List Byte) :
    (portRecord (clockOut s p bytes) p).permissions = (portRecord s p).permissions := by
  cases p <;> rfl

/-- A complete frame of a permitted length that finds room, from a port that may send it, acts. -/
theorem request_acts {s : State} {f : Frame} {g : Gate} {ls : List Nat} {d : Bool} {act : State → State}
    (complete : f.complete = true) (length : f.body.length ∈ ls) (short : ∀ n ∈ ls, n ≤ 60)
    (room : (portRecord s f.port).replies.length < 8) (open6 : d = true → openCount s f.port < 6)
    (may : permitted f.port (portRecord s f.port).permissions g = true) :
    request s f { gate := g, lengths := some ls, deferred := d } act
      = .next (act (clockOut s f.port (frameOut f .accepted))) := by
  have h60 : ¬ 60 < f.body.length := by have := short _ length; omega
  have h8 : ¬ 8 ≤ (portRecord s f.port).replies.length := by omega
  have accepted : transactionStatus s f { gate := g, lengths := some ls, deferred := d } = .accepted := by
    cases d
    · simp [transactionStatus, badLength, length, h60, h8]
    · have h6 : ¬ 6 ≤ openCount s f.port := by have := open6 rfl; omega
      simp [transactionStatus, badLength, length, h60, h8, h6]
  simp only [request, complete, accepted, if_true, answerRequest]
  rw [if_pos]
  simpa using may

/-- The value checks refuse BAD_VALUE or pass the fields on. -/
theorem withFields_cases {α : Type} (s : State) (f : Frame) (x : Option α) (act : α → State) :
    (x = none ∧ withFields s f x act = refuse s f .badValue) ∨ ∃ v, x = some v ∧ withFields s f x act = act v := by
  cases x with
  | none => exact Or.inl ⟨rfl, rfl⟩
  | some v => exact Or.inr ⟨v, rfl, rfl⟩

/-- A step is the front command on the state with the queue's rest. -/
theorem step_cons {s : State} {c : Instr} {rest : List Instr} (h : s.pending = c :: rest) :
    step s = exec c { s with pending := rest } := by
  simp [step, h]

/-- A step with an empty queue idles. -/
theorem step_nil {s : State} (h : s.pending = []) : step s = .next s := by
  simp [step, h]

/-! ### Freeing slots by a test -/

/-- R80: `freeSlots` empties exactly the slots whose aim meets the test. -/
theorem slotAt_freeSlots (s : State) (test : Aim → Bool) (j : SlotNo) :
    slotAt (freeSlots s test) j = if (slotAt s j).any test then none else slotAt s j := by
  have gen : ∀ l : List SlotNo, l.Nodup → ∀ s : State,
      slotAt (l.foldl (fun s i => if (slotAt s i).any test then freeSlot s i else s) s) j
        = if j ∈ l ∧ (slotAt s j).any test = true then none else slotAt s j := by
    intro l
    induction l with
    | nil => intro _ s; simp
    | cons i l ih =>
      intro hn s
      obtain ⟨hi, hl⟩ := List.nodup_cons.1 hn
      simp only [List.foldl]
      rw [ih hl]
      by_cases hij : j = i
      · subst hij
        simp only [hi, false_and, if_false]
        split <;> simp_all [freeSlot, slotAt_putSlot_same]
      · have : slotAt (if (slotAt s i).any test then freeSlot s i else s) j = slotAt s j := by
          split
          · simp [freeSlot, slotAt_putSlot_other _ _ hij]
          · rfl
        rw [this]
        simp [hij]
  have hm : j ∈ allSlots := (by decide : ∀ j : SlotNo, j ∈ allSlots) j
  unfold freeSlots
  rw [gen allSlots (by decide) s]
  simp [hm]

/-- `freeSlots` writes the slots, and of a track only its item *aims waiting*. -/
theorem freeSlots_writes (s : State) (test : Aim → Bool) :
    ∃ (waiting : Track → Bool) (slots : Vector (Option Aim) 16), freeSlots s test
      = { s with slots := slots, track := s.track.map (fun t => { t with aimsWaiting := waiting t }) } := by
  unfold freeSlots
  generalize allSlots = l
  induction l generalizing s with
  | nil =>
    refine ⟨fun t => t.aimsWaiting, s.slots, ?_⟩
    cases s with
    | _ => simp [Option.map]; split <;> simp_all
  | cons i l ih =>
    simp only [List.foldl]
    split
    · obtain ⟨waiting, slots, h⟩ := ih (freeSlot s i)
      rw [h]
      refine ⟨fun t => waiting { t with aimsWaiting := anyQueued (s.slots.set i none) }, slots, ?_⟩
      simp [freeSlot, putSlot, Option.map_map]
      rfl
    · exact ih s

/-- R86: `activeOwn` finds the port's own ACTIVE aim. -/
theorem activeOwn_iff (s : State) (p : Port) :
    activeOwn s p = true ↔ ∃ i a, slotAt s i = some a ∧ a.origin = .port ∧ a.port = p ∧ a.state = .active := by
  have hm : ∀ j : SlotNo, j ∈ allSlots := by decide
  simp only [activeOwn, countSlots, decide_eq_true_eq, List.countP_pos_iff]
  constructor
  · rintro ⟨i, -, h⟩
    cases hs : slotAt s i with
    | none => simp [hs] at h
    | some a =>
      simp [hs] at h
      exact ⟨i, a, hs, h.1.1, h.1.2, h.2⟩
  · rintro ⟨i, a, h, h1, h2, h3⟩
    exact ⟨i, hm i, by simp [h, h1, h2, h3]⟩

end Sys2Proof.Machine
end

