-- ==== Sys2Proof/Tests/Slice0.lean ====
section
/-! SUPPORT. Tests: terms that are no commands, worked values of the manual, small steps, and for every obligation with
hypotheses a state and operands that meet them (`meets_…`). -/

-- The tests are elaborated one after another: side by side, each would hold a thread while it waits.
set_option Elab.async false

namespace Sys2Proof.Tests
open Sys2Proof.Machine Sys2Proof.Claims

/-! ### Ill-formed terms -/

/-- A frame on port A with tag 7. -/
def onA (body : List Byte) : Frame := { port := .a, tag := 7#8, body := body, complete := true }

def onB (body : List Byte) : Frame := { port := .b, tag := 7#8, body := body, complete := true }

def encoderAtRest (h v : Int) : Encoder := { h := h, v := v, restH := true, restV := true }

def strong (x y : Int) : Sighting := { x := x, y := y, strength := 90 }

theorem test_frameLength : (onA (List.replicate 255 0#8)).wf = true ∧ (onA (List.replicate 256 0#8)).wf = false
    ∧ Instr.wf (.readTime (onA (List.replicate 256 0#8))) = false := by decide +kernel

theorem test_firstBytes : [0x00#8, 0x0F#8, 0x80#8, 0xA4#8, 0xA7#8, 0xFF#8].all ignoredFirstByte = true
    ∧ [0x10#8, 0x7F#8, 0xA5#8, 0xA6#8].all (fun b => !ignoredFirstByte b) = true
    ∧ Instr.wf (.ignoredTransaction .a 0xA5#8 3) = false := by decide +kernel

theorem test_unknownKinds : [0x16#8, 0x5C#8, 0x7F#8].all unknownKind = true
    ∧ [0x0F#8, 0x10#8, 0x5B#8, 0x80#8].all (fun b => !unknownKind b) = true
    ∧ Instr.wf (.unknownRequest 0x10#8 (onA [])) = false := by decide +kernel

theorem test_encoderRange : (encoderAtRest 3999999 0).wf = true ∧ (encoderAtRest 4000000 0).wf = false
    ∧ Instr.wf (.encoderReadings (encoderAtRest 0 (-1))) = false := by decide +kernel

theorem test_sightingRange : (strong 32767 (-32768)).wf = true ∧ (strong 32768 0).wf = false
    ∧ Sighting.wf { x := 0, y := 0, strength := 0 } = false ∧ Sighting.wf { x := 0, y := 0, strength := 256 } = false := by
  decide +kernel

theorem test_fourSightings : sightingsWf (List.replicate 4 (strong 0 0)) = true
    ∧ Instr.wf (.lockSensorFrame (List.replicate 5 (strong 0 0))) = false := by decide +kernel

theorem test_tiltRange : (TiltSample.values (-750) 750).wf = true ∧ Instr.wf (.tiltSample (.values 751 0)) = false := by
  decide +kernel

/-- The refusals by name. -/
def isRefused : Host.Outcome State Fault Refusal → Bool
  | .refused .notACommand => true
  | _ => false

theorem test_illFormedRefused :
    isRefused (exec (.ignoredTransaction .a 0xA5#8 3) State.reset) = true
    ∧ isRefused (exec (.unknownRequest 0x10#8 (onA [])) State.reset) = true
    ∧ isRefused (exec (.encoderReadings (encoderAtRest 4000000 0)) State.reset) = true
    ∧ isRefused (exec (.lockSensorFrame (List.replicate 5 (strong 0 0))) State.reset) = true
    ∧ isRefused (exec (.tiltSample (.values 751 0)) State.reset) = true := by decide +kernel

/-! ### The request transaction's bytes (R209) -/

theorem test_transactions :
    transactionCommand .b [0x22#8, 7#8, 0#8, 0xFF#8] = some (.cancelAim (onB []))
    ∧ transactionCommand .b [0x22#8, 7#8, 0#8] = some (.cancelAim { onB [] with complete := false })
    ∧ transactionCommand .b [0x14#8, 7#8, 2#8, 0#8, 5#8, 0#8] = some (.forgetTarget (onB [0#8, 5#8]))
    ∧ transactionCommand .b [0xA5#8, 0#8, 0#8] = some (.replyRead .b 2)
    ∧ transactionCommand .b [0xA6#8] = some (.fixRead .b 0)
    ∧ transactionCommand .b [0x00#8, 1#8] = some (.ignoredTransaction .b 0x00#8 2)
    ∧ transactionCommand .b [0x16#8, 7#8, 0#8, 0#8] = some (.unknownRequest 0x16#8 (onB [])) := by decide +kernel

/-! ### Worked values of chapter 1 -/

theorem test_sineWords : [250000, 500000, 1000000, 1500000, 1750000, 2250000, 3000000, 3750000].map sineWord
      = [25080, 46341, 65536, 46341, 25080, -25080, -65536, -25080]
    ∧ [250000, 500000, 1000000, 1500000, 1750000, 2250000, 3000000, 3750000].map cosineWord
      = [60547, 46341, 0, -46341, -60547, -60547, 0, 60547]
    ∧ sineWord 980000 = 65504 ∧ cosineWord 980000 = 2059 ∧ tiltCorrection 750 250000 = 1811 := by decide +kernel

/-- Section 1.4. -/
theorem test_workedSolution :
    (solveEntry .set 1234567 (some (.values (-40) 120)) { h := 500000, v := 1000000 } 3100000 980000 .nearer).toOption
      = some { face := .ii, target := { h := 3865433, v := 3020000 }, raw := { h := 3865437, v := 3020040 },
               turnH := -634563, turnV := -1979960, tilt := { l := -40, t := 120 } } := by decide +kernel

/-- Section 1.6: the first fine correction, and the lock. -/
theorem test_workedLock :
    fineTargets { h := 3865437, v := 3020040 } { l := -40, t := 120 } { x := 37, y := -12 }
      = ({ h := 3865474, v := 3020028 }, 3019988)
    ∧ observedReadings { h := 3865474, v := 3020028 } { l := -40, t := 120 } { x := 2, y := -1 }
      = { h := 3865472, v := 3019987 }
    ∧ observedDirection .set 1234567 { h := 3865472, v := 3019987 } = some { azimuth := 3100039, zenith := 980013 }
    ∧ observedDirection .unset 1234567 { h := 3865472, v := 3019987 } = none := by decide +kernel

/-- R2, R19, R20 and section 1.8. -/
theorem test_deviations : roundDiv 7 2 = 4 ∧ roundDiv (-7) 2 = -4 ∧ roundDiv 349 100 = 3 ∧ roundDiv (-351) 100 = -4
    ∧ dev 18 3999980 = 38 ∧ dev 3999980 18 = -38 ∧ dev 2000000 0 = 2000000 ∧ adoptionMean [-3, -2] = -3
    ∧ adoptionMean [42, 38, 47] = 42 ∧ spread [42, 38, 47] = 9 := by decide +kernel

/-- R94's sample allowances; R16's largest search offset. -/
theorem test_allowances : [0, 5226, 31357, 1000000, 2000000].map (fun n => stallAllowance n 0)
      = [1500, 1512, 1570, 3722, 5944]
    ∧ searchTargets { h := 0, v := 250000 } 250000 8 8 = some { h := 31357, v := 262000 } := by decide +kernel

/-- R110: rings 1 and 2. -/
theorem test_rings : (List.range' 1 8).map (ringPosition 1)
      = [(1, 0), (1, 1), (0, 1), (-1, 1), (-1, 0), (-1, -1), (0, -1), (1, -1)]
    ∧ (List.range' 1 16).map (ringPosition 2)
      = [(2, 0), (2, 1), (2, 2), (1, 2), (0, 2), (-1, 2), (-2, 2), (-2, 1), (-2, 0), (-2, -1), (-2, -2), (-1, -2), (0, -2),
         (1, -2), (2, -2), (2, -1)] := by decide +kernel

/-- R111: the 62 positions a search visits about a corrected zenith of 254,000 with a window of 6,000. -/
theorem test_skippedPositions : [1, 2, 3, 4].map (fun k => (List.range' 1 (8 * k)).countP (fun n =>
      (searchTargets { h := 0, v := 254000 } 254000 (ringPosition k n).1 (ringPosition k n).2).isSome)) = [8, 16, 17, 21] := by
  decide +kernel

/-! ### Small states -/

/-- The part in RUN, the drive HOLDING at (1,000, 1,000,000), the station SET and the clock VALID. -/
def ready : State :=
  { State.reset with
    power := .run none, drive := .holding { h := 1000, v := 1000000 }, encoder := encoderAtRest 1000 1000000,
    clock := { Clock.reset with valid := true },
    station := { omega := 0, state := .set, reference := some { l := 0, t := 0 }, latest := some (.values 0 0),
                 check := none } }

/-- An unpinned TRANSIENT entry. -/
def spare (id : Nat) : Entry :=
  { id := id, role := .reference, cls := .transient, pinned := false, rounds := 0#4, azimuth := 2000, zenith := 1000000,
    source := .entered, window := 3000, tolerance := 30, retryLimit := 2, missCount := 0, owner := .a, lastObs := none }

def pinned (id : Nat) : Entry := { spare id with cls := .retained, pinned := true, rounds := 1#4 }

def retained (id : Nat) : Entry := { spare id with cls := .retained }

/-- A state with set 5 filled in. -/
def inSet5 (s : State) (ways : Vector (Option Entry) 4) (order : List (Fin 4)) : State :=
  putSet s 5 { ways := ways, order := order }

/-- Entry 5 alone. -/
def stocked : State := inSet5 ready #v[some (spare 5), none, none, none] [0, 3, 2, 1]

/-- Port A's aim at entry 5, tag 7. -/
def aimAt5 (state : AimState) : Aim :=
  { tag := some 7#8, port := .a, origin := .port, target := .entry 5, face := .nearer, learn := false, range := false,
    level := .normal, attempts := 0, sequence := 0#32, state := state, lastStatus := none, lastObservation := none }

def withAim (s : State) (i : SlotNo) (a : Aim) : State := { s with slots := s.slots.set i (some a) }

def someReply : Reply := { kind := .done, origin := .tag 1#8, status := .ok, body := [] }

/-- Port A with `n` records queued. -/
def queued (s : State) (n : Nat) : State :=
  setPort s .a { portRecord s .a with replies := List.replicate n someReply }

/-- Six aims of port A wait. -/
def sixOpen : State :=
  { ready with slots := Vector.ofFn (fun i : Fin 16 => if i.val < 6 then some (aimAt5 (.retryWait 9000)) else none) }

/-- Sixteen aims of port A wait. -/
def allSlotsTaken : State :=
  { stocked with slots := Vector.replicate 16 (some { aimAt5 (.retryWait 9000) with port := .b, tag := some 1#8 }) }

def solution5 : Solution :=
  { face := .i, target := { h := 2000, v := 1000000 }, raw := { h := 2000, v := 1000000 }, turnH := 1000, turnV := 0,
    tilt := { l := 0, t := 0 } }

def attemptIn (phase : Phase) : Attempt :=
  { slot := 0, phase := phase, solution := solution5, reachedSensing := phase != .turning, cursor := none,
    corrections := 0, empties := 0, lastSighting := none, lock := none }

/-- The aim of slot 0 in flight in a phase. -/
def inFlight (phase : Phase) : State :=
  { withAim stocked 0 { aimAt5 .active with attempts := 1 } with
    grant := { active := some 0, track := .absent }, attempt := some (attemptIn phase) }

def moveTo (h v : Int) (c : Option Commander) (stopping : Bool) : Move :=
  { target := { h := h, v := v }, commander := c, stopping := stopping, deadline := 600 }

def trackOn5 (state : TrackState) : Track :=
  { startedTrack ready (onA []) 5 .sixteenth false with
    state := state,
    lastSeen := some { readings := { h := 2000, v := 1000000 }, direction := none, residual := { x := 0, y := 0 },
                       orientation := .set },
    anchor := some { raw := { h := 2000, v := 1000000 }, zenith := 1000000 } }

/-- A track of port A on entry 5 that holds the axes. -/
def tracking (state : TrackState) : State :=
  { stocked with track := some (trackOn5 state), grant := { active := none, track := .holding false } }

/-- The state after a step. -/
def after (o : Host.Outcome State Fault Refusal) : State :=
  match o with
  | .next t => t
  | _ => State.reset

/-! ### Single steps -/

/-- Section 2.10, events 7, 8, 10 and 11: the victims. -/
theorem test_victims :
    let mid := inSet5 ready #v[some (pinned 37), some (retained 69), some (spare 133), some (retained 101)] [3, 2, 1, 0]
    let early := inSet5 ready #v[some (pinned 37), some (retained 69), some (spare 133), some (spare 5)] [2, 3, 1, 0]
    let late := inSet5 ready #v[some (pinned 37), some (retained 69), some (retained 229), some (retained 101)] [2, 3, 1, 0]
    let busy := withAim mid 0 { aimAt5 .queued with target := .entry 133 }
    victimOf early (setAt early 5) .retained = some 3
    ∧ victimOf busy (setAt busy 5) .transient = none
    ∧ victimOf mid (setAt mid 5) .retained = some 2
    ∧ victimOf late (setAt late 5) .retained = some 1
    ∧ victimOf late (setAt late 5) .transient = none := by decide +kernel

/-- An admitted aim is dispatched in the same step. -/
theorem test_aimMoves :
    let t := after (exec (.aim (onA (u16 5 ++ [3#8, 0#8]))) stocked)
    t.grant.active = some 0 ∧ t.drive = .moving (newMove stocked { h := 2000, v := 1000000 } .acquisition)
    ∧ t.attempt = some (attemptIn .turning) ∧ openCount t .a = 1 ∧ (portRecord t .a).replies = [] := by decide +kernel

/-- An empty frame in SENSING begins a search at position (1, 0). -/
theorem test_searchBegins :
    let t := after (exec (.lockSensorFrame []) (inFlight .sensing))
    t.attempt.map (·.cursor) = some (some { rings := 2, ring := 1, index := 1 })
    ∧ t.attempt.map (·.phase) = some .searching
    ∧ t.drive = .moving (newMove ready { h := 3500, v := 1000000 } .acquisition) := by decide +kernel

/-- A sighting within the lock tolerance ends the attempt LOCKED: the record is queued and the slot freed. -/
theorem test_lockCompletes :
    let t := after (exec (.lockSensorFrame [strong 3 (-3)]) (inFlight .sensing))
    t.attempt = none ∧ t.grant.active = none ∧ slotAt t 0 = none
    ∧ (portRecord t .a).replies.map (fun r => (r.kind, r.status, r.body.length)) = [(.observation, .locked, 54)]
    ∧ ((lookup t 5).bind (·.lastObs)).map (·.readings) = some (some { h := 1003, v := 999997 }) := by decide +kernel

/-- A stall in an attempt is a fault of the drive, final for the aim, and told to every port. -/
theorem test_stallEndsAim :
    let t := after (exec .stallDeadline
      { inFlight .turning with drive := .moving (moveTo 2000 1000000 (some .acquisition) false) })
    t.drive = .fault .stall ∧ t.attempt = none ∧ slotAt t 0 = none ∧ t.elapsed = 600
    ∧ (portRecord t .a).replies.map (·.status) = [.driveFault]
    ∧ (portRecord t .c).notices = 0b1000001001#10 := by decide +kernel

/-- The lengths of the streams of section 12.4 and of the bodies of section 12.5. -/
theorem test_lengths :
    let x : Fix := tickFix (trackOn5 .tracking)
      { readings := { h := 0, v := 0 }, direction := some { azimuth := 0, zenith := 0 }, residual := { x := 0, y := 0 },
        orientation := .set } Clock.reset .tracking
    (fixStream x 0).length = 36 ∧ (targetBody 5 0 (spare 5) 0).length = 57 ∧ (trackEndBody none 0 0).length = 41
    ∧ (trackEndBody (some x) 0 0).length = 41 ∧ (roundBody Round.reset 0).length = 24
    ∧ (summaryBody Round.reset none).length = 21 ∧ (stationBody Station.reset).length = 18
    ∧ (observationBody (.entry 5) 0 none).length = 13 ∧ (settingsBody Settings.reset).length = 20
    ∧ (statusBody ready .a).length = 14 := by decide +kernel

/-- R201: a reply is removed with its last byte. -/
theorem test_readRemoves :
    (portRecord (after (exec (.replyRead .a 4) (queued ready 2))) .a).replies.length = 2
    ∧ (portRecord (after (exec (.replyRead .a 5) (queued ready 2))) .a).replies.length = 1
    ∧ (portRecord (after (exec (.replyRead .a 5) (queued ready 2))) .a).out = [1#8, 0#8, 1#8, 0#8, 0#8] := by decide +kernel

/-! ### Hypotheses that are met: one theorem per obligation with hypotheses -/

theorem tagFree_of {s : State} {f : Frame}
    (h : allSlots.all (fun i => !(slotAt s i).any (ownAim f.port f.tag)) = true) : TagFree s f := by
  intro i a ha hx
  have hm : i ∈ allSlots := (by decide : ∀ j : SlotNo, j ∈ allSlots) i
  have := List.all_eq_true.mp h i hm
  simp [ha, ownAim, hx] at this

theorem meets_FrontCommandRuns :
    ({ ready with pending := [.clockCount, .trackTick] } : State).pending = .clockCount :: [.trackTick] ∧ ready.pending = [] := by
  decide +kernel

theorem meets_NoCommandStopsTheBlock :
    Instr.wf .clockCount = true
    ∧ (Instr.wf (.encoderReadings (encoderAtRest 4000000 0)) = false ∧ frameOf (.encoderReadings (encoderAtRest 4000000 0)) = none)
    ∧ unknownKind 0x10#8 = false
    ∧ (frameOf (.partReset (onA (List.replicate 256 0#8)) { a := none, b := none, c := none })
        = some (onA (List.replicate 256 0#8)) ∧ 255 < (onA (List.replicate 256 0#8)).body.length
      ∧ (onA (List.replicate 256 0#8)).complete = true) := by decide +kernel

theorem meets_PartWideResetKeepsPins : (onA []).complete = true ∧ (onA []).port = .a ∧ (onA []).body = [] := by decide +kernel

theorem meets_WakeCausesAreTaken :
    State.reset.wakeLine = false ∧ ({ ready with wakeLine := true } : State).wakeLine = true
    ∧ (State.reset.power = .rest ∧ State.reset.drive = .off)
    ∧ ({ ready with power := .waking 9 0#6 } : State).power = .waking 9 0#6 ∧ ready.power = .run none
    ∧ (({ ready with power := .run (some 9) } : State).power = .run (some 9) ∧ WakeCause.queue ≠ .request
      ∧ WakeCause.queue ≠ .line)
    ∧ ({ ready with settings := { Settings.reset with idleRest := 10 } } : State).settings.idleRest ≠ 0 := by decide +kernel

theorem meets_RoundingGoesToNearest :
    (2 : Int) ≠ 0 ∧ 2 * ((-7 : Int) - roundDiv (-7) 2 * 2).natAbs = (2 : Int).natAbs := by decide +kernel

theorem meets_ClampGoesToTheNearestEdge :
    [0, 249999, 1750001, 2000000, 2249999, 3750001, 3999999].all (fun v => 0 ≤ v && v < 4000000 && !inBand v) = true
    ∧ [250000, 1750000, 2250000, 3750000].all inBand = true
    ∧ [0, 249999, 250000, 1750000, 1750001, 2000000].map clampStoredZenith
      = [250000, 250000, 250000, 1750000, 1750000, 1750000] := by decide +kernel

theorem meets_TurnIsTheShorterWay :
    (0 : Int) ≤ 3999999 ∧ (3999999 : Int) < 4000000 ∧ ((1000000 : Int) - 3000000) % 4000000 = 2000000
    ∧ turn 3999999 3999999 = 0 := by decide +kernel

theorem meets_DiscardedFramesChangeNothing :
    kindOf (.waitChange (onA [])) = some (onA [], .group .tableRead, [0], true)
    ∧ ({ onA [] with complete := false } : Frame).complete = false
    ∧ wrongLength [0] (onA [1#8]) ∧ wrongLength [0] (onA (List.replicate 61 0#8))
    ∧ (¬ wrongLength [0] (onA []) ∧ 8 ≤ (portRecord (queued ready 8) .a).replies.length)
    ∧ 6 ≤ openCount sixOpen .a
    ∧ ((onB [1#8]).complete = true ∧ (onB [1#8]).body ≠ [])
    ∧ ((onB []).body = [] ∧ (onB []).port ≠ .a
      ∧ 8 ≤ (portRecord (setPort ready .b { portRecord ready .b with replies := List.replicate 8 someReply }) .b).replies.length)
    ∧ (unknownKind 0x7F#8 = true ∧ (onB (List.replicate 61 0#8)).complete = true
      ∧ 60 < (onB (List.replicate 61 0#8)).body.length ∧ (onB (List.replicate 60 0#8)).body.length ≤ 60)
    ∧ [0x00#8, 0x0F#8, 0x80#8, 0xA4#8, 0xA7#8, 0xFF#8].all ignoredFirstByte = true := by
  unfold wrongLength; decide +kernel

theorem meets_PermissionIsAsked :
    kindOf (.rest (onB [])) = some (onB [], .group .part, [0], false) ∧ (onB []).complete = true
    ∧ (onB []).body.length ∈ [0] ∧ (portRecord ready .b).replies.length < 8 ∧ openCount ready .b < 6
    ∧ permitted .b (portRecord ready .b).permissions (.group .part) = false
    ∧ ((onB []).body = [] ∧ (onB []).port ≠ .a)
    ∧ (unknownKind 0x7F#8 = true ∧ (onB (List.replicate 60 0#8)).complete = true
      ∧ (onB (List.replicate 60 0#8)).body.length ≤ 60) := by decide +kernel

/-- A write of entry 5 without the direction part, with one byte of the body replaced. -/
def writeBytes (k : Nat) (b : Byte) : List Byte :=
  (u16 5 ++ [2#8, 2#8, 0#8, 0#8] ++ u16 1500 ++ u16 1 ++ [7#8]).set k b

/-- A write of entry 37 with its direction part. -/
def write37 (pin : Byte) : List Byte :=
  u16 37 ++ [2#8, 2#8, pin, 0#8] ++ u16 12000 ++ u16 50000 ++ [0#8] ++ u32 3999999 ++ u32 1750000

def directionBytes5 : List Byte := u32 3999999 ++ u32 250000 ++ u16 1500 ++ [7#8, 3#8, 0#8]

/-- A round's specification for range code `range`, with one byte of the body replaced. -/
def roundBody5 (range : Byte) (k : Nat) (b : Byte) : List Byte :=
  [3#8, range, 31#8, 23#8, 59#8, 59#8, 3#8, 3#8, 1#8].set k b

theorem meets_ValuesOutOfRangeAreRefused :
    MayAsk ready (onA (u16 65535 ++ [0#8])) (.group .tableRead) [3]
    ∧ MayAsk ready (onA (writeBytes 5 16#8)) (.group .tableWrite) [11, 19]
    ∧ MayAsk ready (onA (u16 65535)) (.group .tableWrite) [2]
    ∧ MayDefer ready (onA (u16 5 ++ [4#8, 0#8])) (.group .aim) [4, 5]
    ∧ MayDefer ready (onA (directionBytes5.set 12 1#8)) (.group .aim) [13, 14]
    ∧ MayDefer ready (onA (u16 5 ++ [8#8, 0#8])) (.group .track) [4]
    ∧ (MayAsk ready (onA (u32 4000000)) (.group .station) [4] ∧ 3999999 < word32At (u32 4000000) 0)
    ∧ MayDefer ready (onA [2#8]) (.group .station) [1] ∧ MayAsk ready (onA (roundBody5 0#8 0 4#8)) (.group .round) [9]
    ∧ MayAsk ready (onA [4#8]) (.group .round) [1] ∧ MayAsk ready (onB [3#8]) .always [1]
    ∧ MayAsk ready (onA [1#8, 0#8]) .setup [2] ∧ MayAsk ready (onA [4#8, 1#8, 3#8]) .setup [3] := by
  refine ⟨?_, ?_, ?_, ?_, ?_, ?_, ?_, ?_, ?_, ?_, ?_, ?_, ?_⟩ <;> (first | unfold MayDefer MayAsk | unfold MayAsk) <;>
    decide +kernel

/-- The bodies of the table and the aims at the bounds of each field: the first value out of range, and the last inside. -/
theorem meets_ValuesOutOfRangeAreRefused_bounds :
    ([u16 0 ++ [0#8], u16 65535 ++ [0#8], u16 5 ++ [2#8]].all (fun b => readFieldsOf b = none)
      ∧ [u16 1 ++ [0#8], u16 65534 ++ [1#8]].all (fun b => (readFieldsOf b).isSome))
    ∧ ([(2, 0#8), (2, 5#8), (3, 0#8), (3, 3#8), (4, 2#8), (5, 16#8), (7, 0xDB#8), (9, 0#8), (10, 8#8)].all
        (fun x => writeFieldsOf (writeBytes x.1 x.2) = none) ∧ (writeFieldsOf (writeBytes 0 0#8)).isSome
      ∧ (writeFieldsOf (write37 1#8)).isSome
      ∧ [(7, 0xE1#8), (9, 0x51#8), (12, 0x3E#8), (16, 0x03#8), (18, 0xF1#8)].all
        (fun x => writeFieldsOf ((write37 1#8).set x.1 x.2) = none))
    ∧ ([(2, 0#8), (2, 4#8), (3, 4#8), (4, 0#8), (4, 4#8)].all
        (fun x => aimFieldsOf ((u16 5 ++ [3#8, 3#8, 3#8]).set x.1 x.2) = none)
      ∧ (aimFieldsOf (u16 5 ++ [3#8, 3#8, 3#8])).isSome ∧ (aimFieldsOf (u16 5 ++ [1#8, 0#8])).isSome)
    ∧ ([(10, 8#8), (11, 0#8), (11, 4#8), (12, 1#8), (12, 3#8), (12, 4#8)].all
        (fun x => aimDirectionFieldsOf (directionBytes5.set x.1 x.2) = none)
      ∧ aimDirectionFieldsOf (directionBytes5 ++ [4#8]) = none ∧ (aimDirectionFieldsOf (directionBytes5 ++ [3#8])).isSome
      ∧ (aimDirectionFieldsOf (directionBytes5.set 12 2#8)).isSome) := by decide +kernel

/-- The bodies of tracks, rounds and port levels at the bounds of each field. -/
theorem meets_ValuesOutOfRangeAreRefused_others :
    (trackFieldsOf (u16 5 ++ [8#8, 0#8]) = none ∧ trackFieldsOf (u16 5 ++ [7#8, 2#8]) = none
      ∧ (trackFieldsOf (u16 5 ++ [7#8, 1#8])).isSome)
    ∧ ([(0, 4#8), (1, 6#8), (2, 0#8), (2, 32#8), (3, 24#8), (4, 60#8), (5, 60#8), (6, 0#8), (6, 4#8), (7, 0#8), (7, 4#8),
        (8, 2#8)].all (fun x => roundFieldsOf (roundBody5 5#8 x.1 x.2) = none) ∧ (roundFieldsOf (roundBody5 5#8 0 3#8)).isSome
      ∧ roundFieldsOf (roundBody5 4#8 2 7#8) = none ∧ (roundFieldsOf (roundBody5 4#8 2 6#8)).isSome
      ∧ (roundFieldsOf (roundBody5 0#8 5 60#8)).isSome ∧ (roundFieldsOf (roundBody5 1#8 4 60#8)).isSome
      ∧ (roundFieldsOf (roundBody5 2#8 3 24#8)).isSome ∧ (roundFieldsOf (roundBody5 3#8 2 32#8)).isSome)
    ∧ ([[0#8, 1#8, 1#8], [4#8, 1#8, 1#8], [1#8, 0#8, 1#8], [1#8, 4#8, 1#8], [1#8, 1#8, 0#8], [1#8, 1#8, 4#8]].all
        (fun b => levelFieldsOf b = none) ∧ (levelFieldsOf [3#8, 3#8, 1#8]).isSome) := by decide +kernel

theorem meets_RecordsGoBehind :
    ((portRecord (queued ready 7) .a).replies.length < 8 ∧ (portRecord (queued ready 7) .a).held = [])
    ∧ 8 ≤ (portRecord (queued ready 8) .a).replies.length
    ∧ (portRecord (hold ready .a (.aim 0)) .a).held ≠ []
    ∧ (portRecord State.reset .a).notices.getLsbD Notice.partReset.bit = true
    ∧ (portRecord State.reset .a).notices.getLsbD Notice.woke.bit = false := by decide +kernel

/-- R202, R203: a kind that the set gains starts a pulse under PULSE alone; one it holds changes nothing. -/
theorem test_notices :
    let s := setPort ready .b { portRecord ready .b with mode := .pulse }
    (portRecord (notify s .b .woke) .b).pulse = some 32 ∧ (portRecord (notify ready .b .woke) .b).pulse = none
    ∧ notify s .b .partReset = s
    ∧ [Port.a, .b, .c].map (fun p => (portRecord (notifyAll s .woke) p).notices) = [0b1100000001#10, 0b1100000001#10, 0b1100000001#10] := by
  decide +kernel

theorem meets_ReadsTakeTheOldest :
    (portRecord ready .a).replies = [] ∧ (portRecord ready .a).fix = none
    ∧ ((portRecord (queued ready 2) .a).replies = someReply :: [someReply] ∧ 4 < 5 + someReply.body.length
      ∧ 5 + someReply.body.length ≤ 5 ∧ (portRecord (queued ready 2) .a).held = [])
    ∧ (portRecord (hold (queued ready 8) .a (.record someReply true)) .a).held = .record someReply true :: []
    ∧ ((portRecord (hold (queued ready 8) .a (.aim 0)) .a).held = .aim 0 :: []
      ∧ slotAt (withAim (hold (queued ready 8) .a (.aim 0)) 0 (aimAt5 (.doneHeld someReply))) 0
        = some (aimAt5 (.doneHeld someReply)))
    ∧ (portRecord (after (exec .trackTick { tracking .tracking with tickDue := some Clock.reset })) .a).fix.isSome = true := by
  decide +kernel

theorem meets_ReadTargetReportsAndReserves :
    let f := onA (u16 5 ++ [1#8])
    let waiting := putClaim stocked .a { reservation := some 37, wait := some 9#8 }
    MayAsk stocked f (.group .tableRead) [3] ∧ 1 ≤ word16At f.body 0 ∧ word16At f.body 0 ≤ 65534 ∧ byteAt f.body 2 = 1
    ∧ locate ready 5 = none ∧ locate stocked 5 = some (0, spare 5) ∧ (claim stocked .a).wait = none
    ∧ byteAt (onA (u16 5 ++ [0#8])).body 2 = 0 ∧ MayAsk waiting f (.group .tableRead) [3]
    ∧ (claim waiting .a).wait = some 9#8 ∧ (claim waiting .a).reservation = some 37 := by
  unfold MayAsk; decide +kernel

theorem meets_ReadSetSurveysTheSet :
    MayAsk stocked (onA [32#8]) (.group .tableRead) [1] ∧ 31 < byteAt (onA [32#8]).body 0
    ∧ MayAsk stocked (onA [31#8]) (.group .tableRead) [1] ∧ byteAt (onA [31#8]).body 0 = (31 : Fin 32).val := by
  unfold MayAsk; decide +kernel

/-- A full set with a spare entry. -/
def fullSet : State :=
  inSet5 ready #v[some (retained 69), some (spare 101), some (pinned 133), some (pinned 165)] [0, 1, 2, 3]

def fields37 (pin : Bool) : WriteFields :=
  { id := 37, role := .reference, cls := .transient, pinned := pin, rounds := 0#4, window := 12000, tolerance := 50000,
    retryLimit := 0, direction := some { azimuth := 3999999, zenith := 1750000 } }

theorem meets_InsertTakesTheVictim :
    MayAsk fullSet (onA (write37 0#8)) (.group .tableWrite) [11, 19] ∧ writeFieldsOf (write37 0#8) = some (fields37 false)
    ∧ (fields37 false).direction = some { azimuth := 3999999, zenith := 1750000 } ∧ locate fullSet 37 = none
    ∧ ¬ pinLimitMet fullSet (fields37 false) ∧ victimOf fullSet (setAt fullSet (setOf 37)) .transient = some 1 := by
  unfold MayAsk pinLimitMet; decide +kernel

theorem meets_InsertTakesTheVictim_choice :
    (∀ w : Fin 4, w ∈ (setAt fullSet 5).order) ∧ victimOf fullSet (setAt fullSet 5) .retained = some 1
    ∧ victimOf (inSet5 ready #v[some (retained 69), some (retained 101), some (pinned 133), some (pinned 165)] [0, 1, 2, 3])
        { ways := #v[some (retained 69), some (retained 101), some (pinned 133), some (pinned 165)], order := [0, 1, 2, 3] }
        .transient = none := by decide +kernel

theorem meets_RewriteKeepsTheWay :
    let s := putClaim (inSet5 ready #v[some (spare 37), none, none, none] [0, 3, 2, 1]) .a
      { reservation := some 37, wait := none }
    MayAsk s (onA (write37 1#8)) (.group .tableWrite) [11, 19] ∧ writeFieldsOf (write37 1#8) = some (fields37 true)
    ∧ locate s 37 = some (0, spare 37) ∧ ¬ pinLimitMet s (fields37 true) ∧ (claim s .a).reservation = some 37 := by
  unfold MayAsk pinLimitMet; decide +kernel

theorem meets_WriteRefusalsChangeNothing :
    let three := putClaim (inSet5 ready #v[some (spare 37), some (pinned 101), some (pinned 133), some (pinned 165)] [0, 1, 2, 3])
      .a { reservation := some 37, wait := none }
    let none37 := inSet5 ready #v[some (retained 69), some (retained 101), some (pinned 133), some (pinned 165)] [0, 1, 2, 3]
    MayAsk three (onA (write37 1#8)) (.group .tableWrite) [11, 19] ∧ writeFieldsOf (write37 1#8) = some (fields37 true)
    ∧ pinLimitMet three (fields37 true) ∧ locate three 37 ≠ none ∧ (claim three .a).reservation = some 37
    ∧ locate none37 37 = none ∧ (fields37 false).direction ≠ none
    ∧ victimOf none37 (setAt none37 (setOf 37)) .transient = none ∧ (claim none37 .a).reservation ≠ some 37
    ∧ (writeFieldsOf (writeBytes 0 0#8)).map (·.direction) = some none ∧ locate ready 5 = none := by
  unfold MayAsk pinLimitMet; decide +kernel

theorem meets_ForgetDropsUnusedEntry :
    let f := onA (u16 5)
    let held := inSet5 ready #v[some (pinned 5), none, none, none] [0, 3, 2, 1]
    MayAsk stocked f (.group .tableWrite) [2] ∧ 1 ≤ word16At f.body 0 ∧ word16At f.body 0 ≤ 65534
    ∧ locate ready 5 = none ∧ (locate held 5 = some (0, pinned 5) ∧ (pinned 5).pinned = true)
    ∧ (locate stocked 5 = some (0, spare 5) ∧ (spare 5).pinned = false ∧ useCount stocked 5 = 0)
    ∧ 0 < useCount (withAim stocked 0 (aimAt5 .queued)) 5 := by
  unfold MayAsk; decide +kernel

theorem meets_WaitsFollowReservations :
    let s := putClaim (putClaim ready .a { reservation := some 5, wait := some 9#8 }) .b { reservation := some 5, wait := none }
    (claim s .a).reservation = some 5 ∧ (claim s .a).wait = some 9#8 ∧ (claim s .b).reservation = some 5
    ∧ (claim s .b).wait = none ∧ (claim s .c).reservation ≠ some 5 := by decide +kernel

theorem meets_WaitsFollowReservations_waits :
    MayDefer ready (onB []) (.group .tableRead) [0]
    ∧ (claim (putClaim ready .b { reservation := some 5, wait := some 9#8 }) .b).wait.isSome = true
    ∧ (claim ready .b).wait = none ∧ (claim ready .b).reservation = none
    ∧ (claim (putClaim ready .b { reservation := some 5, wait := none }) .b).reservation = some 5 := by
  unfold MayDefer MayAsk; decide +kernel

def aimBytes : List Byte := u16 5 ++ [3#8, 3#8]

def aim5 : AimFields := { target := .entry 5, face := .nearer, learn := true, range := true, level := none }

theorem meets_AimIsAdmittedOrRefused :
    TagFree stocked (onA aimBytes) ∧ SlotFree stocked ∧ MayDefer stocked (onA aimBytes) (.group .aim) [4, 5]
    ∧ aimFieldsOf aimBytes = some aim5 ∧ aim5.target = .entry 5 ∧ lookup stocked 5 ≠ none
    ∧ stocked.station.state ≠ .unset ∧ MayDefer stocked (onA directionBytes5) (.group .aim) [13, 14]
    ∧ (aimDirectionFieldsOf directionBytes5).isSome = true := by
  refine ⟨tagFree_of (by decide +kernel), ?_⟩
  unfold SlotFree MayDefer MayAsk; decide +kernel

theorem meets_AimIsAdmittedOrRefused_refusals :
    MayDefer stocked (onA aimBytes) (.group .aim) [4, 5] ∧ aimFieldsOf aimBytes = some aim5 ∧ aim5.target = .entry 5
    ∧ ¬ TagFree (withAim stocked 15 (aimAt5 .queued)) (onA aimBytes)
    ∧ TagFree ready (onA aimBytes) ∧ lookup ready 5 = none
    ∧ lookup { stocked with station := Station.reset } 5 ≠ none
    ∧ TagFree allSlotsTaken (onA aimBytes) ∧ lookup allSlotsTaken 5 ≠ none ∧ allSlotsTaken.station.state ≠ .unset
    ∧ ¬ SlotFree allSlotsTaken := by
  refine ⟨by unfold MayDefer MayAsk; decide +kernel, by decide +kernel, by decide +kernel, ?_, tagFree_of (by decide +kernel),
    by decide +kernel, by decide +kernel, tagFree_of (by decide +kernel), by decide +kernel, by decide +kernel,
    by unfold SlotFree; decide +kernel⟩
  intro h
  exact h 15 (aimAt5 .queued) (by decide +kernel) (by decide +kernel)

/-- AIM_DIRECTION with its tag in use, and with every slot taken. -/
theorem meets_AimIsAdmittedOrRefused_direct :
    let inUse := withAim stocked 15 (aimAt5 .queued)
    MayDefer inUse (onA directionBytes5) (.group .aim) [13, 14] ∧ ¬ TagFree inUse (onA directionBytes5)
    ∧ MayDefer allSlotsTaken (onA directionBytes5) (.group .aim) [13, 14] ∧ TagFree allSlotsTaken (onA directionBytes5)
    ∧ ¬ SlotFree allSlotsTaken ∧ (aimDirectionFieldsOf directionBytes5).isSome = true := by
  refine ⟨by unfold MayDefer MayAsk; decide +kernel, ?_, by unfold MayDefer MayAsk; decide +kernel,
    tagFree_of (by decide +kernel), by unfold SlotFree; decide +kernel, by decide +kernel⟩
  intro h
  exact h 15 (aimAt5 .queued) (by decide +kernel) (by decide +kernel)

/-- Port A's aim of slot 0 with the attempts given. -/
def triedAim (attempts : Nat) : Aim := { aimAt5 .active with attempts := attempts }

/-- Attempts 2 and 3 under the retry limit 2; an aim of port A, of a round that is stopping or not, and of a check. -/
theorem meets_AttemptEndsWithItsRecord :
    let s := inFlight .sensing
    let stopping := putRound s 3 { Round.reset with state := .running, stopping := true }
    s.attempt = some (attemptIn .sensing) ∧ slotAt s 0 = some (triedAim 1)
    ∧ ((attemptIn .sensing).reachedSensing = true ∧ (attemptIn .turning).reachedSensing = false)
    ∧ LimitIs s 2 (aimAt5 .active).target ∧ LimitIs s 7 (.direct { h := 0, v := 1000000 } 1500 7)
    ∧ ((triedAim 2).attempts ≤ 2 ∧ ¬ (triedAim 3).attempts ≤ 2)
    ∧ ((roundAt stopping 3).state = .running ∧ (roundAt stopping 3).stopping = true)
    ∧ ((portRecord (queued s 7) .a).replies.length < 8 ∧ (portRecord (queued s 7) .a).held = [])
    ∧ 8 ≤ (portRecord (queued s 8) .a).replies.length := by
  refine ⟨by decide +kernel, by decide +kernel, by decide +kernel, ⟨spare 5, by decide +kernel⟩, rfl, by decide +kernel,
    by decide +kernel, by decide +kernel, by decide +kernel⟩

/-- A lock under the present orientation, with ω as it stands. -/
def lockNow : LockResult :=
  { face := .i, readings := { h := 2000, v := 1000000 }, direction := some { azimuth := 2030, zenith := 1000031 },
    residual := { x := 0, y := 0 }, tilt := { l := 0, t := 0 }, orientation := .set, omega := 0, epoch := none }

theorem meets_ObservationIsBuilt :
    let t := { attemptIn .fine with lock := some lockNow }
    t.lock = some lockNow ∧ (attemptIn .fine).lock = none ∧ ready.station.latest = some (.values 0 0)
    ∧ State.reset.station.latest = none
    ∧ (lookup stocked 5 = some (spare 5) ∧ locate stocked 5 = some (0, spare 5))
    ∧ ((dev 2030 (spare 5).azimuth).natAbs ≤ (spare 5).tolerance ∧ (spare 5).tolerance < (dev 2031 (spare 5).azimuth).natAbs
      ∧ (spare 5).tolerance < ((1000031 : Int) - (spare 5).zenith).natAbs)
    ∧ (lockNow.orientation = .set ∧ stocked.station.state = .set ∧ stocked.station.omega = lockNow.omega) := by decide +kernel

/-- An attempt that learns: the entry takes the observed direction, its miss count falls to 0, and it is reported. -/
theorem test_learns :
    let s := { withAim stocked 0 { triedAim 1 with learn := true } with
      grant := { active := some 0, track := .absent }, attempt := some { attemptIn .fine with lock := some lockNow } }
    let t := endAttempt s .locked none
    (lookup t 5).map (fun e => (e.azimuth, e.zenith, e.source)) = some (2030, 1000031, .learned)
    ∧ ((lookup t 5).bind (·.lastObs)).map (·.flags)
      = some { drift := true, suspect := false, learned := true, learnSkipped := false } := by decide +kernel

theorem meets_ArbiterActsInOrder :
    (∀ n, (roundAt State.reset n).state ≠ .running) ∧ (∀ b, State.reset.grant.track ≠ .holding b)
    ∧ (∀ d, State.reset.power ≠ .run d) ∧ (∃ c, ({ ready with drive := .fault .stall } : State).drive = .fault c)
    ∧ (inFlight .turning).grant.active ≠ none ∧ Ready ready ∧ ¬ Ready State.reset ∧ ready.grant.track = .absent
    ∧ Follows 0 ready ready := by
  refine ⟨by decide +kernel, by decide +kernel, ?_, ⟨.stall, rfl⟩, by decide +kernel, ⟨⟨none, rfl⟩, ?_⟩, ?_, rfl,
    by decide +kernel, by decide +kernel⟩
  · intro d h
    cases h
  · intro c h
    cases h
  · rintro ⟨⟨d, h⟩, -⟩
    cases h

/-- A track start of port A that waits with sequence 5, and an aim of a level and sequence. -/
def waitingTrack (level : Level) (sequence : BitVec 32) : State :=
  { withAim stocked 0 { aimAt5 .queued with level := level, sequence := sequence } with
    track := some (trackOn5 .acquiring), grant := { active := none, track := .waiting 5#32 } }

theorem meets_ArbiterActsInOrder_tracks :
    (waitingTrack .normal 6#32).track = some (trackOn5 .acquiring) ∧ lookup (waitingTrack .normal 6#32) 5 = some (spare 5)
    ∧ bestQueued (waitingTrack .urgent 6#32) = some (0, { aimAt5 .queued with level := .urgent, sequence := 6#32 })
    ∧ (ArrivedBefore 5#32 6#32 ∧ ¬ ArrivedBefore 5#32 4#32 ∧ ArrivedBefore 0xFFFFFFFF#32 0#32)
    ∧ ((isIdle ready = true ∧ ready.power = .run none)
      ∧ (isIdle { ready with power := .run (some 9) } = true ∧ ({ ready with power := .run (some 9) } : State).power ≠ .run none)
      ∧ (isIdle (waitingTrack .normal 6#32) = false ∧ (waitingTrack .normal 6#32).power = .run none)) := by
  unfold ArrivedBefore; decide +kernel

/-- R188: one act, and the idleness test after it: the waiting aim is dispatched. -/
theorem test_oneAct : Follows 1 (withAim stocked 0 (aimAt5 .queued)) (serveRounds (dispatch (withAim stocked 0 (aimAt5 .queued)) 0
    (aimAt5 .queued))) := by
  refine ⟨dispatch (withAim stocked 0 (aimAt5 .queued)) 0 (aimAt5 .queued), by decide +kernel, by decide +kernel, rfl⟩

/-- Two aims of one level with the sequences 1 and 4,294,967,295: the counter has wrapped between them. -/
def twoQueued : State :=
  withAim (withAim stocked 0 { aimAt5 .queued with sequence := 1#32 }) 1
    { aimAt5 .queued with tag := some 8#8, sequence := 0xFFFFFFFF#32 }

theorem meets_HighestLevelEarliestFirst :
    (∀ i a, slotAt twoQueued i = some a → a.state = .queued → (a.sequence - 0xFFFFFFFE#32).toNat < 2147483648)
    ∧ bestQueued twoQueued = some (1, { aimAt5 .queued with tag := some 8#8, sequence := 0xFFFFFFFF#32 })
    ∧ bestQueued ready = none := by
  refine ⟨?_, by decide +kernel⟩
  intro i a h _
  have all : ∀ i, (slotAt twoQueued i).all (fun a => decide ((a.sequence - 0xFFFFFFFE#32).toNat < 2147483648)) = true := by
    decide +kernel
  have := all i
  rw [h] at this
  simpa using this

/-- The attempts 2 and 3 under the limit 2; an entry and a direct pointing; HOLDING and MOVING. -/
theorem meets_DispatchBeginsTheAttempt :
    let s := withAim stocked 0 (aimAt5 .queued)
    let out := { aimAt5 .queued with target := .direct { h := 0, v := 1750001 } 1500 0 }
    slotAt s 0 = some (aimAt5 .queued) ∧ LimitIs s 2 (aimAt5 .queued).target ∧ LimitIs s 0 out.target
    ∧ ((aimAt5 .queued).attempts ≤ 2 ∧ 2 < (triedAim 3).attempts)
    ∧ (Drivable s ∧ Drivable { s with drive := .moving (moveTo 0 0 none true) })
    ∧ (solveEntry s.station.state s.station.omega s.station.latest (rawNow s) (spare 5).azimuth (spare 5).zenith
        .nearer).toOption = some solution5
    ∧ (solveDirect s.station.latest (rawNow s) { h := 2000, v := 1000000 } .nearer).toOption = some solution5
    ∧ (NoTilt State.reset ∧ ¬ NoTilt s) ∧ (inBand 1750001 = false ∧ inBand 1750000 = true)
    ∧ State.reset.station.state = .unset ∧ s.station.state ≠ .unset := by
  refine ⟨by decide +kernel, ⟨spare 5, by decide +kernel⟩, rfl, by decide +kernel, ⟨Or.inl ⟨_, rfl⟩, Or.inr ⟨_, rfl⟩⟩,
    by decide +kernel, by decide +kernel, ?_, by decide +kernel, by decide +kernel, by decide +kernel⟩
  unfold NoTilt; decide +kernel

/-- R72: the dispatch checks: the aim of slot 0 completes with the status of the first that fails. -/
theorem test_dispatchChecks :
    let done (s : State) (a : Aim) := (portRecord (dispatch (withAim s 0 a) 0 a) .a).replies.map (·.status)
    let direct (v : Int) := { aimAt5 .queued with target := .direct { h := 0, v := v } 1500 0 }
    done stocked { triedAim 3 with lastStatus := some .obstructed } = [.obstructed]
    ∧ done { stocked with station := { stocked.station with state := .unset } } (aimAt5 .queued) = [.noOrientation]
    ∧ done { stocked with station := { stocked.station with latest := some .overRange } } (aimAt5 .queued) = [.outOfLevel]
    ∧ done stocked (direct 1750001) = [.outOfReach] ∧ done stocked (direct 1750000) = [] := by decide +kernel

theorem meets_CancelRemovesTheAim :
    MayAsk stocked (onA []) (.group .aim) [0] ∧ TagFree stocked (onA [])
    ∧ NamesAim (withAim stocked 3 (aimAt5 (.retryWait 9000))) (onA []) 3 (aimAt5 (.retryWait 9000))
    ∧ slotAt (inFlight .turning) 0 = some { aimAt5 .active with attempts := 1 }
    ∧ slotAt (withAim stocked 3 (aimAt5 (.doneHeld someReply))) 3 = some (aimAt5 (.doneHeld someReply)) := by
  refine ⟨by unfold MayAsk; decide +kernel, tagFree_of (by decide +kernel), ⟨by decide +kernel, rfl, rfl, rfl, ?_⟩,
    by decide +kernel, by decide +kernel⟩
  intro j b h _ _ _
  have all : ∀ j, j = 3 ∨ slotAt (withAim stocked 3 (aimAt5 (.retryWait 9000))) j = none := by decide +kernel
  rcases all j with h' | h'
  · exact h'
  · rw [h'] at h; cases h

theorem meets_WakeAnswersThePowerState :
    MayAsk State.reset (onB []) (.group .aim) [0]
    ∧ Denied (modPort State.reset .b (fun q => { q with permissions := 0#8 })) (onB []) (.group .aim) [0] := by
  unfold MayAsk Denied; decide +kernel

theorem meets_TracksStartAndStop :
    let f := onA (u16 5 ++ [7#8, 1#8])
    MayDefer stocked f (.group .track) [4] ∧ 1 ≤ word16At f.body 0 ∧ word16At f.body 0 ≤ 65534
    ∧ intervalOf (byteAt f.body 2) = some .sixHundred ∧ byteAt f.body 3 ≤ 1
    ∧ (stocked.track = none ∧ lookup stocked 5 ≠ none ∧ stocked.station.state ≠ .unset)
    ∧ (tracking .tracking).track.map (·.owner) = some (onA []).port ∧ Port.a ≠ (onB []).port
    ∧ (ready.track = none ∧ lookup ready 5 = none)
    ∧ (let unset := { stocked with station := Station.reset }
      MayDefer unset f (.group .track) [4] ∧ unset.track = none ∧ lookup unset 5 ≠ none ∧ unset.station.state = .unset)
    ∧ MayAsk (tracking .tracking) (onA []) (.group .track) [0] ∧ MayAsk (tracking .tracking) (onB []) (.group .track) [0] := by
  unfold MayDefer MayAsk; decide +kernel

theorem meets_TrackEndReleasesTheAxes :
    let s := { tracking .searching with drive := .moving (moveTo 0 1000000 (some .track) false) }
    s.track.isSome = true ∧ s.drive = .moving (moveTo 0 1000000 (some .track) false)
    ∧ (moveTo 0 1000000 (some .track) false).commander = some .track
    ∧ (moveTo 0 1000000 (some .acquisition) false).commander ≠ some .track := by decide +kernel

/-- A track in a state, and an aim of a level at entry 5. -/
def aimBeside (s : State) (level : Level) : State := withAim s 0 { aimAt5 .queued with level := level }

/-- The track set aside. -/
def setAside : State := { tracking .suspended with grant := { active := none, track := .holding true } }

theorem meets_TrackStepsAside :
    let bare := { setAside with track := some { trackOn5 .suspended with anchor := none } }
    (aimBeside (tracking .tracking) .urgent).grant = { active := none, track := .holding false }
    ∧ UrgentWaits (aimBeside (tracking .tracking) .urgent) ∧ ¬ UrgentWaits (aimBeside (tracking .tracking) .normal)
    ∧ (Ready setAside ∧ Drivable setAside) ∧ setAside.track = some (trackOn5 .suspended)
    ∧ lookup setAside (trackOn5 .suspended).target = some (spare 5)
    ∧ (trackOn5 .suspended).anchor = some { raw := { h := 2000, v := 1000000 }, zenith := 1000000 }
    ∧ bare.track.map (·.anchor) = some none := by
  refine ⟨rfl, ⟨0, { aimAt5 .queued with level := .urgent }, by decide +kernel, rfl, rfl⟩, ?_, ⟨⟨⟨none, rfl⟩, ?_⟩, Or.inl ⟨_, rfl⟩⟩,
    by decide +kernel, by decide +kernel, by decide +kernel, by decide +kernel⟩
  rotate_left
  · intro c h
    cases h
  rintro ⟨i, a, h, -, h'⟩
  have all : ∀ i, (slotAt (aimBeside (tracking .tracking) .normal) i).all (fun a => a.level = .normal) = true := by
    decide +kernel
  have := all i
  simp [h, h'] at this

/-- R73, R145: an URGENT aim sets the track aside; without one it resumes with a move to its anchor. -/
theorem test_stepsAside :
    ((arbitrate (aimBeside (tracking .tracking) .urgent)).bind (·.track)).map (·.state) = some .suspended
    ∧ ((arbitrate setAside).bind (·.track)).map (fun t => (t.state, t.centreLook)) = some (.searching, true)
    ∧ (arbitrate setAside).map (·.drive) = some (.moving (newMove ready { h := 2000, v := 1000000 } .track)) := by
  decide +kernel

theorem meets_SetOrientationTakesTheTilt :
    Denied ready (onB (u32 0)) (.group .station) [4] ∧ MayAsk ready (onA (u32 4000000)) (.group .station) [4]
    ∧ 3999999 < word32At (u32 4000000) 0 ∧ MayAsk ready (onA (u32 3999999)) (.group .station) [4]
    ∧ word32At (u32 3999999) 0 ≤ 3999999 ∧ ready.station.check = none ∧ ready.station.latest = some (.values 0 0)
    ∧ ({ ready with station := { ready.station with check := some (startedCheck (onA []) []) } } : State).station.check ≠ none
    ∧ State.reset.station.latest = none
    ∧ ({ ready with station := { ready.station with latest := some .overRange } } : State).station.latest
      = some .overRange := by
  unfold MayAsk Denied; decide +kernel

theorem meets_CheckPlacesOneAimEach :
    MayDefer stocked (onA [1#8]) (.group .station) [1] ∧ byteAt (onA [1#8]).body 0 ≤ 1 ∧ referencesOf stocked = [5]
    ∧ stocked.station.check = none ∧ stocked.station.state ≠ .unset ∧ occupancy stocked + [5].length ≤ 16
    ∧ 16 < occupancy allSlotsTaken + (referencesOf allSlotsTaken).length ∧ referencesOf ready = []
    ∧ State.reset.station.state = .unset
    ∧ ({ ready with station := { ready.station with check := some (startedCheck (onA []) []) } } : State).station.check
      ≠ none := by
  unfold MayDefer MayAsk; decide +kernel

def checkItem5 : CheckItem := { id := 5, outcome := none, deviation := none }

/-- A check of port A that waits for entry 5 after another entry's deviation. -/
def checking (other : Int) : State :=
  let first : CheckItem := { id := 6, outcome := some .locked, deviation := some (other, 30) }
  { stocked with station := { stocked.station with
      check := some { startedCheck (onA []) [5] with adopt := true, items := [first, checkItem5] } } }

/-- Deviations of 30 and 31 against the tolerance 30; a spread of 20 against the adopt limit. -/
theorem meets_CheckConcludes :
    let verdict (s : State) (st : Status) (x : Int) := (portRecord (checkAimCompletes s 5 st (some x)) .a).replies.map (·.status)
    ((checking 30).station.check.isSome = true ∧ checkItem5.outcome = none)
    ∧ verdict (checking 30) .locked 2030 = [.confirmed] ∧ verdict (checking 30) .locked 2031 = [.adopted]
    ∧ verdict (checking (31 - ready.settings.adoptLimit)) .locked 2031 = [.adopted]
    ∧ verdict (checking (30 - ready.settings.adoptLimit)) .locked 2031 = [.rejected]
    ∧ verdict (checking 31) .notFound 2000 = [.rejected]
    ∧ verdict { checking 30 with station := { (checking 30).station with latest := none } } .locked 2000 = [.incomplete]
    ∧ (checkAimCompletes (checking 31) 5 .locked (some 2031)).station.omega = 4000000 - 31 := by decide +kernel

theorem meets_ReadingReportsTheState :
    (onB []).complete = true ∧ (portRecord State.reset .b).replies.length < 8 ∧ (onB []).body = []
    ∧ ((onB [4#8]).body.length = 1 ∧ 3 < byteAt (onB [4#8]).body 0)
    ∧ ((onB [3#8]).body.length = 1 ∧ byteAt (onB [3#8]).body 0 = (3 : Fin 4).val) := by decide +kernel

/-- The last second of a year. -/
def newYearsEve (year : Nat) : Clock :=
  { year := year, month := 12, day := 31, weekday := 6, hour := 23, minute := 59, second := 59, sub := 1023, valid := true }

theorem meets_ClockIsSetWithoutTick :
    MayAsk ready (onA [96#8, 2#8, 29#8, 6#8, 23#8, 59#8, 59#8]) (.group .clock) [7]
    ∧ (clockNamed (onA [96#8, 2#8, 29#8, 6#8, 23#8, 59#8, 59#8])).ok = true
    ∧ (clockNamed (onA [1#8, 2#8, 29#8, 6#8, 23#8, 59#8, 59#8])).ok = false
    ∧ MayAsk ready (onA []) (.group .clock) [0] ∧ State.reset.clock.valid = false ∧ ready.clock.valid = true
    ∧ ({ ready.clock with second := 29 } : Clock).second < 30 ∧ 30 ≤ ({ ready.clock with second := 30 } : Clock).second
    ∧ (newYearsEve 98).ok = true ∧ ¬ LastMinute (newYearsEve 98) ∧ LastMinute (newYearsEve 99) := by
  unfold MayAsk LastMinute; decide +kernel

/-- R168, R169: the carries through minute, hour, day, month length and year, by a count and by ALIGN_MINUTE. -/
theorem test_carries :
    let carried (c : Clock) := (after (exec .clockCount { ready with clock := c })).clock
    let aligned (c : Clock) := (after (exec (.alignMinute (onA [])) { ready with clock := c })).clock
    let eve (year month day : Nat) : Clock := { newYearsEve year with month := month, day := day }
    let dates := [(0, 2, 29), (1, 2, 28), (4, 2, 28), (0, 4, 30), (0, 1, 31), (98, 12, 31), (99, 12, 31)]
    dates.map (fun d => ((carried (eve d.1 d.2.1 d.2.2)).year, (carried (eve d.1 d.2.1 d.2.2)).month,
      (carried (eve d.1 d.2.1 d.2.2)).day)) = [(0, 3, 1), (1, 3, 1), (4, 2, 29), (0, 5, 1), (0, 2, 1), (99, 1, 1), (0, 1, 1)]
    ∧ dates.all (fun d => carried (eve d.1 d.2.1 d.2.2) = aligned (eve d.1 d.2.1 d.2.2)
        && carried (eve d.1 d.2.1 d.2.2) = minuteAfter (eve d.1 d.2.1 d.2.2))
    ∧ (carried (eve 99 12 31)).valid = false ∧ carried { eve 5 6 7 with hour := 22 } = { eve 5 6 7 with
        hour := 23, minute := 0, second := 0, sub := 0 } := by decide +kernel

def roundBytes (range : Byte) : List Byte := [3#8, range, 0#8, 0#8, 0#8, 59#8, 3#8, 1#8, 1#8]

theorem meets_RoundsAreSetAndArmed :
    MayAsk ready (onA (roundBytes 1#8)) (.group .round) [9]
    ∧ roundFieldsOf (roundBytes 1#8) = some { round := 3, matching := .second 59, reportPort := .c, level := .urgent,
                                              range := true }
    ∧ (roundFieldsOf (roundBytes 0#8)).map (·.matching) = some .never ∧ (roundAt ready 3).state ≠ .running
    ∧ (roundAt (putRound ready 3 { Round.reset with state := .running }) 3).state = .running := by
  unfold MayAsk; decide +kernel

theorem meets_RoundsAreSetAndArmed_arming :
    let r := { Round.reset with matching := .second 0 }
    MayAsk ready (onA [3#8]) (.group .round) [1] ∧ byteAt (onA [3#8]).body 0 = (3 : Fin 4).val
    ∧ State.reset.clock.valid = false ∧ ready.clock.valid = true ∧ (roundAt ready 3).matching = .never
    ∧ r.matching ≠ .never ∧ r.state = .disarmed ∧ ({ r with state := .armed } : Round).state = .armed
    ∧ (roundAt (putRound ready 3 { r with state := .running, stopping := true }) 3).stopping = true
    ∧ 3 ∉ ready.untested ∧ (0 : Fin 4) ≠ 3 := by
  unfold MayAsk; decide +kernel

theorem meets_DisarmStopsTheRun :
    MayAsk ready (onA [3#8]) (.group .round) [1] ∧ byteAt (onA [3#8]).body 0 = (3 : Fin 4).val
    ∧ (roundAt ready 3).state = .disarmed ∧ (roundAt (putRound ready 3 { Round.reset with state := .armed }) 3).state = .armed
    ∧ (roundAt (putRound ready 3 { Round.reset with state := .running }) 3).stopping = false := by
  unfold MayAsk; decide +kernel

/-- Round 0 runs over entry 37 alone, a member, at table position 20. -/
def running : State :=
  putRound (inSet5 ready #v[some (pinned 37), none, none, none] [0, 3, 2, 1]) 0
    { Round.reset with state := .running, cursor := 20, level := .background }

theorem meets_RoundsAreFedAndEnd :
    mayFeed running 0 = true ∧ MemberAt running 0 20 (pinned 37) ∧ SlotFree running
    ∧ (∀ q, 20 < q → q < 128 → (entryAt running q).isNone = true)
    ∧ (FedBy 0 1 running (feedStep running 0) ∧ FedBy 0 2 running (feedStep (feedStep running 0) 0)
      ∧ mayFeed (feedStep (feedStep running 0) 0) 0 = false ∧ ¬ RunOver (feedStep (feedStep running 0) 0) 0)
    ∧ RunOver (putRound running 0 { Round.reset with state := .running, cursor := 128 }) 0 := by
  refine ⟨by decide +kernel, by unfold MemberAt; decide +kernel, by unfold SlotFree; decide +kernel, ?_,
    ⟨⟨by decide +kernel, rfl⟩, ⟨by decide +kernel, by decide +kernel, rfl⟩, by decide +kernel,
      by unfold RunOver; decide +kernel⟩, by unfold RunOver; decide +kernel⟩
  have all : ∀ q : Fin 128, 20 < q.val → (entryAt running q.val).isNone = true := by decide +kernel
  exact fun q h h' => all ⟨q, h'⟩ h

/-- R180, R182: the run places its one aim; with that aim gone the round returns to ARMED and its port is told. -/
theorem test_runEnds :
    let fed := serveRounds running
    let ended := serveRounds (putSlot fed 0 none)
    (slotAt fed 0).map (fun a => (a.origin, a.target, a.level)) = some (.round 0, .entry 37, .background)
    ∧ (roundAt fed 0).cursor = 128 ∧ (roundAt fed 0).state = .running ∧ (roundAt ended 0).state = .armed
    ∧ (portRecord ended .a).replies.map (·.kind) = [.roundSummary] ∧ (portRecord ended .a).notices = 0b1001000001#10 := by
  decide +kernel

theorem meets_ClearFaultAndRest :
    MayAsk ready (onA []) (.group .part) [0] ∧ Denied ready (onB []) (.group .part) [0]
    ∧ ({ ready with drive := .fault .stall } : State).drive = .fault .stall ∧ State.reset.power = .rest
    ∧ ({ ready with power := .waking 9 0#6 } : State).power = .waking 9 0#6
    ∧ (ready.power = .run none ∧ isIdle ready = true) ∧ isIdle (withAim ready 0 (aimAt5 .queued)) = false :=
  ⟨by unfold MayAsk; decide +kernel, by unfold Denied; decide +kernel, by decide +kernel⟩

theorem meets_ReadingReportsTheState_status :
    (onB []).complete = true ∧ (onB []).body = [] ∧ (portRecord State.reset .b).replies.length < 8
    ∧ (portRecord State.reset .b).notices ≠ 0#10 := by decide +kernel

/-- Section 12.4: the status of a part with a stalled drive, an aim and a track of port A. -/
theorem test_statusBytes :
    let s := { setPort (withAim (tracking .coasting) 2 (aimAt5 .queued)) .a { portRecord ready .a with mode := .pulse } with
      drive := .fault .stall }
    statusBody s .a = [0x02#8, 0x01#8, 0x04#8, 0x01#8, 0x01#8, 0x01#8, 0x03#8, 0x02#8, 0x01#8, 0x02#8, 0x00#8, 0x02#8, 0x02#8,
      0x01#8]
    ∧ statusBody State.reset .c = [0x00#8, 0x00#8, 0x00#8, 0xFF#8, 0x00#8, 0xFF#8, 0xFF#8, 0xFF#8, 0x00#8, 0x00#8, 0x00#8,
      0x01#8, 0x02#8, 0x01#8] := by decide +kernel

theorem meets_AttentionFollowsTheMode :
    let s := setPort ready .b { portRecord ready .b with pulse := some 624 }
    MayAsk ready (onB [2#8]) .always [1] ∧ modeOf (byteAt (onB [2#8]).body 0) = some .pulse
    ∧ (portRecord s .b).pulse = some 624 ∧ Arrives s 624 ∧ ¬ Arrives s 625 ∧ (portRecord ready .b).mode = .level := by
  unfold MayAsk Arrives; decide +kernel

/-- Port A's ACTIVE aim beside three aims of round 0 for port A, a check aim of port A and an aim of port B. -/
def busyA : State :=
  let others : List (SlotNo × Aim) :=
    [(1, { aimAt5 (.doneHeld someReply) with origin := .round 0 }), (2, { aimAt5 .queued with origin := .round 0 }),
     (3, { aimAt5 .queued with origin := .check }), (4, { aimAt5 .queued with port := .b })]
  others.foldl (fun s x => withAim s x.1 x.2) { inFlight .turning with
    drive := .moving (moveTo 2000 1000000 (some .acquisition) false) }

theorem meets_PortResetClearsThePort :
    (onA []).complete = true ∧ (onA []).body = []
    ∧ (slotAt busyA 0 = some (triedAim 1) ∧ (triedAim 1).origin = .port ∧ (triedAim 1).state = .active)
    ∧ (slotAt busyA 1).map (·.state) = some (.doneHeld someReply) ∧ (slotAt busyA 2).map (·.state) = some .queued
    ∧ (slotAt busyA 3).map (·.origin) = some .check ∧ (slotAt busyA 4).map (·.port) = some .b
    ∧ busyA.track = none ∧ (tracking .tracking).track.map (·.owner) = some (onA []).port
    ∧ (onB []).port ≠ (triedAim 1).port := by decide +kernel

/-- R86, R127: a PORT_RESET of port A aborts its ACTIVE aim and removes its DONE_HELD round aim; one of port B leaves both. -/
theorem test_portResetAborts :
    let kept (p : Port) := allSlots.countP (fun i => (slotAt (resetPort busyA p) i).isSome)
    kept .a = 3 ∧ (resetPort busyA .a).attempt = none ∧ (resetPort busyA .a).grant.active = none
    ∧ (resetPort busyA .a).drive = .moving { moveTo 2000 1000000 none true with deadline := 960000 }
    ∧ kept .b = 4 ∧ (resetPort busyA .b).attempt = busyA.attempt ∧ (resetPort busyA .b).drive = busyA.drive := by decide +kernel

theorem meets_SetupRequestsApply :
    MayAsk ready (onA [3#8, 255#8]) .setup [2] ∧ portOf (byteAt (onA [3#8, 255#8]).body 0) = some .c ∧ Port.c ≠ .a
    ∧ MayAsk ready (onA [2#8, 1#8, 3#8]) .setup [3] ∧ portOf (byteAt (onA [2#8, 1#8, 3#8]).body 0) = some .b
    ∧ levelOf (byteAt (onA [2#8, 1#8, 3#8]).body 1) = some .urgent
    ∧ levelOf (byteAt (onA [2#8, 1#8, 3#8]).body 2) = some .background
    ∧ MayAsk ready (onA (List.replicate 20 0xFF#8)) .setup [20] ∧ Settings.reset.ok = true
    ∧ (State.reset.power = .rest ∧ ready.power = .run none ∧ isIdle ready = true ∧ ready.settings.idleRest ≠ 10)
    ∧ isIdle (withAim ready 0 (aimAt5 .queued)) = false
    ∧ ({ ready with power := .run (some 9) } : State).power = .run (some 9) := by
  unfold MayAsk; decide +kernel

/-- A move to 0, 1,000,000 that a commander has in flight. -/
def turning (s : State) (c : Option Commander) : State := { s with drive := .moving (moveTo 0 1000000 c false) }

theorem meets_DriveTakesReadings :
    (encoderAtRest 20 999980).wf = true ∧ InPlace (encoderAtRest 20 999980) { h := 0, v := 1000000 }
    ∧ (¬ InPlace (encoderAtRest 21 1000000) { h := 0, v := 1000000 }
      ∧ ¬ InPlace (encoderAtRest 3999980 999979) { h := 0, v := 1000000 })
    ∧ (turning ready none).drive = .moving (moveTo 0 1000000 none false) ∧ (moveTo 0 1000000 none false).stopping = false
    ∧ ((moveTo 0 1000000 (some .acquisition) false).commander = some .acquisition
      ∧ (inFlight .turning).attempt = some (attemptIn .turning) ∧ (attemptIn .turning).phase = .turning
      ∧ (inFlight .searching).attempt = some (attemptIn .searching) ∧ (attemptIn .searching).phase ≠ .turning)
    ∧ ((moveTo 0 1000000 (some .track) false).commander = some .track
      ∧ (tracking .acquiring).track = some (trackOn5 .acquiring) ∧ (trackOn5 .acquiring).state = .acquiring
      ∧ ({ trackOn5 .acquiring with acquirePhase := some .turning } : Track).acquirePhase = some .turning
      ∧ (trackOn5 .tracking).state ≠ .acquiring ∧ (trackOn5 .searching).state ≠ .acquiring)
    ∧ (moveTo 0 1000000 none true).stopping = true
    ∧ ready.drive = .holding { h := 1000, v := 1000000 } ∧ (dev 3000 1000).natAbs ≤ 2000 ∧ 2000 < (dev 3001 1000).natAbs
    ∧ Arrives ready 624
    ∧ (ready.attempt = none ∧ (∀ b, ready.grant.track ≠ .holding b) ∧ (tracking .tracking).grant.track = .holding false
      ∧ setAside.grant.track = .holding true)
    ∧ (slotAt (inFlight .ranging) (attemptIn .ranging).slot = some (triedAim 1)
      ∧ (attemptIn .ranging).reachedSensing = true ∧ (attemptIn .turning).reachedSensing = false) := by
  unfold Arrives InPlace; decide +kernel

/-- R132, R136: an arrival brings an acquiring track from TURNING to SENSING, and changes no phase elsewhere. -/
theorem test_arrivals :
    let arrived (s : State) := after (exec (.encoderReadings (encoderAtRest 20 999980)) s)
    let acquiring := { trackOn5 .acquiring with acquirePhase := some .turning }
    (arrived (turning { tracking .acquiring with track := some acquiring } (some .track))).track
      = some { acquiring with acquirePhase := some .sensing }
    ∧ (arrived (turning (tracking .coasting) (some .track))).track = some (trackOn5 .coasting)
    ∧ (arrived (turning (inFlight .fine) (some .acquisition))).attempt = some (attemptIn .fine)
    ∧ (arrived (turning (inFlight .fine) (some .acquisition))).drive = .holding { h := 0, v := 1000000 } := by decide +kernel

/-- R96, R128: a fault in RANGING ends the aim DRIVE_FAULT and abandons its request; a fault ends a track set aside. -/
theorem test_faults :
    let request : DistanceRequest := { requester := .acquisition, abandoned := false, expiry := 624, number := 0 }
    let s := enterFault { inFlight .ranging with distance := some request } .displaced
    let u := enterFault setAside .stall
    s.attempt = none ∧ slotAt s 0 = none ∧ s.distance = some { request with abandoned := true }
    ∧ (portRecord s .a).replies.map (·.status) = [.driveFault]
    ∧ u.track = none ∧ u.grant.track = .absent
    ∧ (portRecord u .a).replies.map (fun r => (r.kind, r.status)) = [(.trackEnd, .driveFault)] := by decide +kernel

theorem meets_FrameLeadsToFine :
    let s := inFlight .sensing
    s.attempt = some (attemptIn .sensing) ∧ (attemptIn .sensing).phase = .sensing
    ∧ s.drive = .holding { h := 1000, v := 1000000 } ∧ sightingsWf [strong 4 (-3)] = true
    ∧ judged s [strong 4 (-3)] = .selected (strong 4 (-3)) ∧ judged s [] = .empty
    ∧ (¬ withinLock s (clamped (strong 4 (-3))) ∧ withinLock s (clamped (strong 3 (-3))))
    ∧ s.station.latest = some (.values 0 0) ∧ slotAt s (attemptIn .sensing).slot = some (triedAim 1)
    ∧ (inFine { attemptIn .fine with corrections := 4 } (strong 4 0)).corrections = 4
    ∧ (inFine { attemptIn .sensing with corrections := 4 } (strong 4 0)).corrections = 0
    ∧ (triedAim 1).range = false ∧ s.distance = none := by
  unfold withinLock; decide +kernel

/-- R114, R115: the fifth correction and the second empty frame in FINE. -/
theorem test_fineEnds :
    let fine (t : Attempt) := { inFlight .fine with attempt := some t }
    let ended (s : State) (g : List Sighting) := (portRecord (after (exec (.lockSensorFrame g) s)) .a).replies.map (·.status)
    ended (fine { attemptIn .fine with corrections := 4 }) [strong 4 0] = [.unsteady]
    ∧ ended (fine { attemptIn .fine with corrections := 3 }) [strong 4 0] = []
    ∧ ended { fine { attemptIn .fine with empties := 1 } with slots := Vector.replicate 16 (some (triedAim 3)) } []
      = [.obstructed]
    ∧ ended (fine { attemptIn .fine with empties := 0 }) [] = [] := by decide +kernel

/-- Four sightings in order: too weak, near, farther, and as near but weaker. -/
theorem meets_FramesAreJudged :
    let weak := { strong 0 0 with strength := ready.settings.minStrength - 1 }
    let frame := [weak, strong 3 4, strong 2000 2000, { strong 5 0 with strength := 89 }]
    selectSighting ready.settings.minStrength 0 frame = .selected (strong 3 4)
    ∧ selectSighting ready.settings.minStrength 4 frame = .selected (strong 3 4)
    ∧ selectSighting ready.settings.minStrength 5 frame = .ambiguous (strong 3 4)
    ∧ selectSighting ready.settings.minStrength 5 [weak] = .empty ∧ selectSighting 1 5 [strong 3 4, strong 4 3]
      = .ambiguous (strong 3 4)
    ∧ sightingsWf frame = true ∧ (attemptIn .turning).phase = .turning
    ∧ ({ inFlight .fine with drive := .moving (moveTo 0 0 none false) } : State).drive = .moving (moveTo 0 0 none false)
    ∧ (ready.attempt = none ∧ ready.track = none) ∧ ((tracking .tracking).track = some (trackOn5 .tracking)
      ∧ setAside.grant.track ≠ .holding false) := by decide +kernel

theorem meets_SearchWalksTheRings :
    let s := inFlight .sensing
    let cursor : Cursor := { rings := 2, ring := 2, index := 16 }
    let hunting := { attemptIn .searching with cursor := some cursor }
    s.drive = .holding { h := 1000, v := 1000000 } ∧ judged s [] = .empty ∧ WindowIs s 3000 (aimAt5 .active).target
    ∧ (hunting.phase = .searching ∧ hunting.cursor = some cursor ∧ nextCursor cursor = none)
    ∧ judged s [strong 3 4, strong 4 3] = .ambiguous (strong 3 4)
    ∧ (nextCursor { cursor with index := 15 } = some cursor
      ∧ nextCursor { rings := 2, ring := 1, index := 8 } = some { cursor with index := 1 })
    ∧ ringStart 12000 = { rings := 8, ring := 1, index := 1 } ∧ (1748500 + 1 * 1500 : Int) ≤ 1750000 := by
  refine ⟨by decide +kernel, by decide +kernel, ⟨spare 5, by decide +kernel⟩, by decide +kernel, by decide +kernel,
    by decide +kernel, by decide +kernel, by decide +kernel⟩

theorem meets_TrackFollowsFrames :
    let s := tracking .tracking
    let hunting := { trackOn5 .searching with cursor := some { rings := 2, ring := 1, index := 1 }, centreLook := true }
    s.attempt = none ∧ s.track = some (trackOn5 .tracking) ∧ s.grant.track = .holding false
    ∧ (Drivable s ∧ Drivable { s with drive := .moving (moveTo 0 0 (some .track) false) })
    ∧ (TrackLooks s (trackOn5 .tracking) ∧ TrackLooks s hunting
      ∧ TrackLooks s { trackOn5 .acquiring with solution := some solution5, acquirePhase := some .sensing })
    ∧ judged s [strong 3 4] = .selected (strong 3 4) ∧ (∀ x, judged s [] ≠ .selected x)
    ∧ s.station.latest = some (.values 0 0) ∧ lookup s (trackOn5 .tracking).target = some (spare 5)
    ∧ (trackOn5 .searching).anchor = some { raw := { h := 2000, v := 1000000 }, zenith := 1000000 } := by
  refine ⟨by decide +kernel, by decide +kernel, by decide +kernel, ⟨Or.inl ⟨_, rfl⟩, Or.inr ⟨_, rfl⟩⟩,
    ⟨Or.inl rfl, Or.inr (Or.inr (Or.inr ⟨?_, Or.inl rfl⟩)), Or.inr (Or.inr (Or.inl ⟨rfl, rfl⟩))⟩, by decide +kernel, ?_,
    by decide +kernel, by decide +kernel, by decide +kernel⟩
  · intro m h
    cases h
  · intro x h
    cases h

/-- R137 to R139: a sighting is followed, an empty frame in TRACKING coasts, and the search ends LOST past its last ring. -/
theorem test_trackFrames :
    let seen (s : State) (g : List Sighting) := (after (exec (.lockSensorFrame g) s)).track.map (·.state)
    let last : Cursor := { rings := 2, ring := 2, index := 16 }
    let hunting := { tracking .searching with track := some { trackOn5 .searching with cursor := some last } }
    seen (tracking .coasting) [strong 3 4] = some .tracking ∧ seen (tracking .tracking) [] = some .coasting
    ∧ (after (exec (.lockSensorFrame [strong 3 4]) (tracking .tracking))).drive
      = .moving (newMove ready { h := 1003, v := 1000004 } .track)
    ∧ seen hunting [] = none ∧ (portRecord (after (exec (.lockSensorFrame []) hunting)) .a).replies.map (·.status) = [.lost] := by
  decide +kernel

theorem meets_TiltSampleIsTested :
    (TiltSample.values 750 (-750)).wf = true ∧ State.reset.station.state ≠ .set ∧ ready.station.state = .set
    ∧ ready.station.reference = some { l := 0, t := 0 } ∧ ((30 : Int) - 0).natAbs ≤ ready.settings.tiltGuard
    ∧ ready.settings.tiltGuard < ((31 : Int) - 0).natAbs
    ∧ ((∀ b, ready.grant.track ≠ .holding b) ∧ (tracking .tracking).grant.track = .holding false) := by decide +kernel

/-- R154, R155, R116, R140: one sample over range in a SET station, with an attempt in FINE, and with a track that holds. -/
theorem test_overRange :
    let t := after (exec (.tiltSample .overRange) (inFlight .fine))
    let u := after (exec (.tiltSample .overRange) (tracking .tracking))
    t.station.state = .suspect ∧ (portRecord t .c).notices = 0b1000010011#10 ∧ t.attempt = none
    ∧ (portRecord t .a).replies.map (·.status) = [.outOfLevel]
    ∧ u.track = none ∧ (portRecord u .a).replies.map (·.status) = [.outOfLevel] := by decide +kernel

theorem meets_CountsAndFirings :
    let r := { Round.reset with matching := .second 0, state := .armed }
    let s := putRound { ready with boundary := some Clock.reset, untested := [0, 1, 2, 3] } 3 r
    (ready.clock.sub < 1023 ∧ (ready.clock.sub + 1) % 64 ≠ 0)
    ∧ (({ ready.clock with sub := 1022 } : Clock).sub < 1023 ∧ (1022 + 1) % 64 ≠ 0 ∧ (959 + 1) % 64 = 0)
    ∧ (({ ready.clock with sub := 1023, second := 58 } : Clock).sub = 1023
      ∧ ({ ready.clock with sub := 1023, second := 58 } : Clock).second < 59)
    ∧ ((newYearsEve 99).sub = 1023 ∧ (newYearsEve 99).second = 59 ∧ (newYearsEve 99).ok = true)
    ∧ s.boundary = some Clock.reset ∧ 3 ∈ s.untested ∧ matchesAt Clock.reset (roundAt s 3).matching = true
    ∧ (roundAt s 3).state = .armed ∧ matchesAt Clock.reset (roundAt s 2).matching = false
    ∧ (roundAt (putRound s 3 { r with state := .running }) 3).state = .running := by decide +kernel

/-- R177: a round armed after the count that raised the boundary does not fire at it; one armed before does. -/
theorem test_armedAfterTheBoundary :
    let s := putRound { ready with boundary := some ready.clock, untested := [0, 1, 2, 3] } 3
      { Round.reset with matching := .second 0 }
    let armed := after (exec (.armRound (onA [3#8])) s)
    (roundAt armed 3).state = .armed ∧ armed.untested = [0, 1, 2]
    ∧ (roundAt (after (exec (.roundFire 3) armed)) 3).state = .armed
    ∧ (roundAt (after (exec (.roundFire 3) { armed with untested := [0, 1, 2, 3] })) 3).started = some
      { year := 0, month := 1, day := 1, hour := 0, minute := 0, second := 0, sub := 0 } := by decide +kernel

theorem meets_TickWritesTheFix :
    let s := { tracking .coasting with tickDue := some Clock.reset }
    s.tickDue = some Clock.reset ∧ s.track = some (trackOn5 .coasting)
    ∧ onBoundary Clock.reset (trackOn5 .coasting).interval = true ∧ (trackOn5 .coasting).state = .coasting
    ∧ (trackOn5 .coasting).lastSeen.isSome = true ∧ s.distance = none
    ∧ locate s (trackOn5 .coasting).target = some (0, spare 5) ∧ (trackOn5 .suspended).state = .suspended := by decide +kernel

/-- R143: with the range option a tick taken in TRACKING sends a request, and one taken in COASTING does not. -/
theorem test_tickRequests :
    let sent (state : TrackState) := (after (exec .trackTick { tracking state with
      tickDue := some Clock.reset, track := some { trackOn5 state with range := true } })).distance.map (·.expiry)
    sent .tracking = some 2560000 ∧ sent .coasting = none := by decide +kernel

def request0 (c : Commander) (abandoned : Bool) : DistanceRequest :=
  { requester := c, abandoned := abandoned, expiry := 624, number := 0 }

theorem meets_DistanceRequestEnds :
    let s := { tracking .tracking with distance := some (request0 .track false) }
    s.distance = some (request0 .track false) ∧ 1 ≠ (request0 .track false).number
    ∧ (NotRanging s ∧ ¬ NotRanging (inFlight .ranging))
    ∧ (Freed s { s with distance := none } ∧ Freed (inFlight .ranging) (requested (inFlight .ranging)))
    ∧ (request0 .track true).abandoned = true ∧ (request0 .track false).abandoned = false
    ∧ s.track = some (trackOn5 .tracking) ∧ Arrives s (request0 .track false).expiry
    ∧ ((inFlight .ranging).attempt = some (attemptIn .ranging) ∧ (attemptIn .ranging).phase = .ranging
      ∧ Arrives (inFlight .ranging) (request0 .track true).expiry)
    ∧ (request0 .acquisition false).requester = .acquisition ∧ ready.distance = none := by
  have idle : NotRanging { tracking .tracking with distance := some (request0 .track false) } := by
    intro t ht
    cases ht
  have busy : ¬ NotRanging (inFlight .ranging) := fun h => h (attemptIn .ranging) rfl rfl
  refine ⟨by decide +kernel, by decide +kernel, ⟨idle, busy⟩,
    ⟨⟨fun _ => rfl, fun h => absurd idle h⟩, ⟨fun h => absurd h busy, fun _ => rfl⟩⟩,
    by decide +kernel, by decide +kernel, by decide +kernel, by unfold Arrives; decide +kernel,
    ⟨by decide +kernel, by decide +kernel, by unfold Arrives; decide +kernel⟩, by decide +kernel, by decide +kernel⟩

/-- R143: a track keeps 10 and 30,000,000 and no distance outside; R118: an attempt that waits sends its request as the
record becomes FREE. -/
theorem test_answers :
    let s := { tracking .tracking with distance := some (request0 .track false) }
    let kept (a : DistanceAnswer) := (after (exec (.distanceAnswer 0 a) s)).track.map (·.latestDistance)
    [DistanceAnswer.distance 9, .distance 10, .distance 30000000, .distance 30000001, .noReturn, .interrupted].map kept
      = [some none, some (some 10), some (some 30000000), some none, some none, some none]
    ∧ (after (exec (.distanceAnswer 0 (.distance 99)) { inFlight .ranging with distance := some (request0 .track true) })).distance
      = some { requester := .acquisition, abandoned := false, expiry := 2560000, number := 0 } := by decide +kernel

theorem meets_WorkDeadlinesArrive :
    let a := aimAt5 (.retryWait 624)
    let t := { trackOn5 .coasting with coastDeadline := some 624, holdDeadline := some 624, aimsWaiting := false }
    let s := { withAim stocked 15 a with track := some t, grant := { active := none, track := .holding false } }
    slotAt s 15 = some a ∧ a.state = .retryWait 624 ∧ Arrives s 624 ∧ ¬ Arrives s 625 ∧ s.track = some t
    ∧ t.state = .coasting ∧ t.coastDeadline = some 624 ∧ t.anchor = some { raw := { h := 2000, v := 1000000 }, zenith := 1000000 }
    ∧ lookup s 5 = some (spare 5) ∧ (Drivable s ∧ Drivable { s with drive := .moving (moveTo 0 0 (some .track) false) })
    ∧ t.holdDeadline = some 624 ∧ t.holdPassed = false ∧ t.aimsWaiting = false ∧ s.grant.track = .holding false
    ∧ (({ t with aimsWaiting := true } : Track).aimsWaiting = true ∧ ({ t with holdPassed := true } : Track).holdPassed = true) := by
  refine ⟨by decide +kernel, rfl, by unfold Arrives; decide +kernel, by unfold Arrives; decide +kernel, rfl, rfl, rfl, rfl,
    by decide +kernel, ⟨Or.inl ⟨_, rfl⟩, Or.inr ⟨_, rfl⟩⟩, rfl, rfl, rfl, rfl, rfl, rfl⟩

/-- R146, R138: the hold deadline with an aim waiting; the coast deadline while a correction move is in flight. -/
theorem test_deadlinesOfATrack :
    let waiting := { tracking .tracking with track := some { trackOn5 .tracking with holdDeadline := some 624, aimsWaiting := true } }
    let coasting := { tracking .coasting with
      drive := .moving (moveTo 0 1000000 (some .track) false), track := some { trackOn5 .coasting with coastDeadline := some 624 } }
    (portRecord (after (exec .holdDeadline waiting)) .a).replies.map (·.status) = [.holdExpired]
    ∧ (after (exec .holdDeadline waiting)).track = none
    ∧ (after (exec .coastDeadline coasting)).track.map (·.state) = some .searching
    ∧ (after (exec .coastDeadline coasting)).drive = .moving { newMove ready { h := 3500, v := 1000000 } .track with
        deadline := 624 + 640 * 1506 } := by decide +kernel

theorem meets_SettleAndIdleDeadlines :
    let s := { ready with power := .waking 624 0b100000#6, drive := .settling }
    s.power = .waking 624 0b100000#6 ∧ s.drive = .settling ∧ Arrives s 624 ∧ s.wakeLine = false
    ∧ ({ s with wakeLine := true } : State).wakeLine = true
    ∧ ({ ready with power := .run (some 624) } : State).power = .run (some 624)
    ∧ isIdle { ready with power := .run (some 624) } = true ∧ isIdle (withAim ready 0 (aimAt5 .queued)) = false := by
  unfold Arrives; decide +kernel

/-- A state in every invariant, and a step of it that answers a next state. -/
theorem meets_Kept : TableOk stocked ∧ (GrantOk stocked ∧ TrackOk stocked) ∧ PowerOk stocked
    ∧ (PortsOk stocked ∧ RangesOk stocked) := by
  refine ⟨by unfold TableOk; decide +kernel, ⟨⟨?_, by decide +kernel⟩, by unfold TrackOk; decide +kernel⟩, ?_, ?_,
    by unfold RangesOk; decide +kernel⟩
  · decide +kernel
  · exact trivial
  · intro p; cases p <;> decide +kernel

end Sys2Proof.Tests
end

section
/-! PROOFS. The sighting band and clamping into it (R4, R18). -/

namespace Sys2Proof.Machine

/-- The size of a deviation is the length of the shorter of the two ways round between two readings. -/
theorem natAbs_dev {a b : Int} (ha : 0 ≤ a) (ha' : a < 4000000) (hb : 0 ≤ b) (hb' : b < 4000000) :
    (dev a b).natAbs = min (a - b).natAbs (4000000 - (a - b).natAbs) := by
  have onCircle : reduce (a - b) = if a < b then a - b + 4000000 else a - b := by
    unfold reduce
    split <;> omega
  simp only [dev, onCircle]
  split <;> split <;> omega

/-- R4: the band in each face. -/
theorem inBand_iff (v : Int) :
    inBand v = true ↔ (250000 ≤ v ∧ v ≤ 1750000) ∨ (2250000 ≤ v ∧ v ≤ 3750000) := by
  simp only [inBand, Bool.and_eq_true, decide_eq_true_eq]
  unfold faceIEquivalent
  split <;> omega

/-- R4: a reading in the band is its own clamp. -/
theorem clampBand_of_inBand {v : Int} (h : inBand v = true) : clampBand v = v := if_pos h

/-- R4: outside the band a reading lies in one of four arcs, two around each pole, and each arc has its edge; the poles
themselves belong to the arcs of face I. -/
theorem clampBand_cases {v : Int} (h : inBand v = false) :
    (v < 250000 ∧ clampBand v = 250000)
    ∨ (1750000 < v ∧ v ≤ 2000000 ∧ clampBand v = 1750000)
    ∨ (2000000 < v ∧ v < 2250000 ∧ clampBand v = 2250000)
    ∨ (3750000 < v ∧ clampBand v = 3750000) := by
  have outside := mt (inBand_iff v).mpr (by simp [h])
  simp only [clampBand, h, Bool.false_eq_true, if_false]
  by_cases nearZenith : v < 250000
  · rw [if_pos nearZenith]; omega
  · rw [if_neg nearZenith]
    by_cases faceI : v ≤ 2000000
    · rw [if_pos faceI]; omega
    · rw [if_neg faceI]
      by_cases pastNadir : v < 2250000
      · rw [if_pos pastNadir]; omega
      · rw [if_neg pastNadir]; omega

/-- The band edges of R4, those of face I first. -/
def bandEdges : List Int := [250000, 1750000, 2250000, 3750000]

/-- R4: the clamp of a reading outside the band is a band edge. -/
theorem clampBand_mem_bandEdges {v : Int} (h : inBand v = false) : clampBand v ∈ bandEdges := by
  obtain ⟨-, clamp⟩ | ⟨-, -, clamp⟩ | ⟨-, -, clamp⟩ | ⟨-, clamp⟩ := clampBand_cases h <;> simp [bandEdges, clamp]

/-- R4: no band edge is nearer to a reading outside the band than its clamp. -/
theorem dev_clampBand_le {v e : Int} (hv : 0 ≤ v) (hv' : v < 4000000) (h : inBand v = false) (he : e ∈ bandEdges) :
    (dev v (clampBand v)).natAbs ≤ (dev v e).natAbs := by
  have edge : e = 250000 ∨ e = 1750000 ∨ e = 2250000 ∨ e = 3750000 := by simpa [bandEdges] using he
  have arc := clampBand_cases h
  rw [natAbs_dev hv hv' (by omega) (by omega), natAbs_dev hv hv' (by omega) (by omega)]
  obtain ⟨below, clamp⟩ | ⟨above, below, clamp⟩ | ⟨above, below, clamp⟩ | ⟨above, clamp⟩ := arc <;>
    rw [clamp] <;> omega

/-- Settles O7: outside the band, each of the four arcs of `clampBand_cases` is nearest to its own edge. -/
theorem clampGoesToTheNearestEdge : Obligations.ClampGoesToTheNearestEdge := by
  refine ⟨fun v hv hv' => ⟨inBand_iff v, clampBand_of_inBand, fun h => ?_⟩, by decide, by decide, fun _ _ _ => rfl⟩
  exact ⟨clampBand_mem_bandEdges h, fun _ he => dev_clampBand_le hv hv' h he⟩

end Sys2Proof.Machine
end

section
/-! PROOFS. READ_SET (R34): what a permitted request at once acts on, and the body that reports a set. -/

namespace Sys2Proof.Machine
open Sys2Proof.Claims

/-! ### Requests answered at once -/

/-- R197, R198 steps 1 and 2: an immediate request that the port may ask acts on the state that has taken its frame. -/
theorem request_immediate_of_mayAsk {s : State} {f : Frame} {g : Gate} {ls : List Nat} (act : State → State)
    (ask : MayAsk s f g ls) (short : ∀ n ∈ ls, n ≤ 60) :
    request s f (immediate g ls) act = .next (act (taken s f)) := by
  obtain ⟨complete, length, room, may⟩ := ask
  exact request_acts complete length short room (fun deferred => nomatch deferred) may

/-! ### The set number -/

/-- Section 12.2: a body names set `k` exactly when its byte is `k`. -/
theorem setNoOf_eq_some_iff (b : List Byte) (k : Fin 32) : setNoOf b = some k ↔ byteAt b 0 = k.val := by
  unfold setNoOf
  split
  · simp [Fin.ext_iff]
  · simp only [reduceCtorEq, false_iff]; omega

/-- Section 12.2: a body names no set exactly when its byte is above 31. -/
theorem setNoOf_eq_none_iff (b : List Byte) : setNoOf b = none ↔ 31 < byteAt b 0 := by
  unfold setNoOf
  split
  · simp only [reduceCtorEq, false_iff]; omega
  · simp only [true_iff]; omega

/-! ### The four way summaries -/

/-- Section 12.4: the summary of an invalid way, whatever use count is passed. -/
@[simp] theorem waySummary_none (w : Fin 4) (uses : Nat) :
    waySummary w none uses = u8 w.val ++ u8 0 ++ absentBytes 7 := rfl

/-- Section 12.4: the summary of a valid way. -/
@[simp] theorem waySummary_some (w : Fin 4) (e : Entry) (uses : Nat) :
    waySummary w (some e) uses = u8 w.val ++ u8 1 ++ u16 e.id ++ u8 e.role.code ++ u8 e.cls.code ++ yesNo e.pinned
      ++ u8 uses ++ u8 e.source.code := rfl

/-- Taking a frame writes a port alone, so every set reads the same. -/
@[simp] theorem setBody_taken (s : State) (f : Frame) (k : Fin 32) : setBody (taken s f) k = setBody s k := rfl

/-! ### The request -/

theorem exec_readSet (f : Frame) (s : State) : exec (.readSet f) s = execReadSet f s := rfl

/-- R34: a permitted READ_SET goes on to its value check, the set number. -/
theorem exec_readSet_of_mayAsk {s : State} {f : Frame} (ask : MayAsk s f (.group .tableRead) [1]) :
    exec (.readSet f) s
      = .next (withFields (taken s f) f (setNoOf f.body) (fun k => answer (taken s f) f (setBody (taken s f) k))) := by
  rw [exec_readSet, execReadSet, request_immediate_of_mayAsk _ ask (by decide)]

/-- R34: a READ_SET without a set number is refused BAD_VALUE. -/
theorem exec_readSet_badValue {s : State} {f : Frame} (ask : MayAsk s f (.group .tableRead) [1])
    (above : 31 < byteAt f.body 0) : exec (.readSet f) s = .next (refused s f .badValue) := by
  rw [exec_readSet_of_mayAsk ask, (setNoOf_eq_none_iff f.body).mpr above]
  rfl

/-- R34: a READ_SET of set `k` is answered with the set's body. -/
theorem exec_readSet_answered {s : State} {f : Frame} {k : Fin 32} (ask : MayAsk s f (.group .tableRead) [1])
    (named : byteAt f.body 0 = k.val) : exec (.readSet f) s = .next (answered s f (setBody s k)) := by
  rw [exec_readSet_of_mayAsk ask, (setNoOf_eq_some_iff f.body k).mpr named, ← setBody_taken s f k]
  rfl

/-- Settles O15: the set number decides between refusal and answer, and each summary of the answer is that of an invalid
or of a valid way. -/
theorem readSetSurveysTheSet : Obligations.ReadSetSurveysTheSet := by
  refine fun f s ask => ⟨exec_readSet_badValue ask, fun k named => ?_⟩
  rw [exec_readSet_answered ask named]
  refine congrArg (fun body => Host.Outcome.next (answered s f body)) ?_
  refine congrArg (fun summary => (setAt s k).order.flatMap summary) (funext fun w => ?_)
  cases (setAt s k).ways[w] with
  | none => exact waySummary_none w 0
  | some e => exact waySummary_some w e (useCount s e.id)

end Sys2Proof.Machine
end

section
/-! PROOFS. WAKE (R191, R192): a request that the port may not send, and the power state after a wake cause. -/

namespace Sys2Proof.Machine
open Sys2Proof.Claims

/-! ### Requests that the port may not send -/

/-- R197: an immediate request of a permitted length is accepted where the reply queue has room. -/
theorem transactionStatus_immediate {s : State} {f : Frame} {g : Gate} {ls : List Nat} (length : f.body.length ∈ ls)
    (short : ∀ n ∈ ls, n ≤ 60) (room : (portRecord s f.port).replies.length < 8) :
    transactionStatus s f (immediate g ls) = .accepted := by
  have h60 : ¬ 60 < f.body.length := Nat.not_lt.mpr (short _ length)
  have h8 : ¬ 8 ≤ (portRecord s f.port).replies.length := Nat.not_le.mpr room
  simp [transactionStatus, badLength, immediate, length, h60, h8]

/-- R198 step 2: a taken request without its permission is refused NOT_PERMITTED, and nothing of it is done. -/
theorem answerRequest_of_not_permitted {s : State} {f : Frame} {k : RequestKind} (act : State → State)
    (mayNot : permitted f.port (portRecord s f.port).permissions k.gate = false) :
    answerRequest s f k act = refuse s f .notPermitted := if_neg (by simp [mayNot])

/-- R197, R198 step 2: an immediate request that the port may not send is taken and refused NOT_PERMITTED. -/
theorem request_immediate_of_denied {s : State} {f : Frame} {g : Gate} {ls : List Nat} (act : State → State)
    (denied : Denied s f g ls) (short : ∀ n ∈ ls, n ≤ 60) :
    request s f (immediate g ls) act = .next (refused s f .notPermitted) := by
  obtain ⟨complete, length, room, mayNot⟩ := denied
  simp only [request, complete, transactionStatus_immediate length short room, if_true]
  rw [answerRequest_of_not_permitted act (by rw [permissions_clockOut]; exact mayNot)]
  rfl

/-! ### The power state after a wake cause -/

/-- R191: a cause, whichever it is, starts the wake in REST, joins the causes in WAKING and leaves the part in RUN. -/
theorem code_power_takeWakeCause (s : State) (c : WakeCause) :
    (takeWakeCause s c).power.code = max 1 s.power.code := by
  unfold takeWakeCause
  split
  next rest => simp [rest, Power.code]
  next waking => simp [waking, Power.code]
  next run => simp [run, Power.code]
  next run => split <;> simp [run, Power.code]

/-! ### The request -/

theorem exec_wake (f : Frame) (s : State) : exec (.wake f) s = execWake f s := rfl

/-- R192: a WAKE that the port may not send is refused. -/
theorem exec_wake_denied {s : State} {f : Frame} (denied : Denied s f (.group .aim) [0]) :
    exec (.wake f) s = .next (refused s f .notPermitted) := by
  rw [exec_wake, execWake, request_immediate_of_denied _ denied (by decide)]

/-- R192: a permitted WAKE takes the REQUEST cause, and its DONE record carries the power state that the cause leaves:
RUN (2) where the part was running, else WAKING (1). -/
theorem exec_wake_of_mayAsk {s : State} {f : Frame} (ask : MayAsk s f (.group .aim) [0]) :
    exec (.wake f) s
      = .next (appendReply (takeWakeCause (taken s f) .request) f.port (doneReply f.tag .ok (u8 (max 1 s.power.code)))) := by
  rw [exec_wake, execWake, request_immediate_of_mayAsk _ ask (by decide), wake, code_power_takeWakeCause]
  rfl

/-- Settles O29: the permission decides between refusal and answer, and the power state before the request determines
the one that is answered. -/
theorem wakeAnswersThePowerState : Obligations.WakeAnswersThePowerState := by
  refine fun f s => ⟨exec_wake_denied, fun ask => ?_⟩
  rw [exec_wake_of_mayAsk ask]
  cases s.power with
  | rest => rfl
  | waking deadline causes => rfl
  | run deadline => rfl

end Sys2Proof.Machine
end

section
/-! PROOFS. What carries the conditions of Safety.lean from one state to the next: operations that write one of the four
groups of fields (the table; the slots, grant, attempt and track; the drive and the power state; the ports and the
values in ranges) keep the conditions over the others by the fields they leave as they were. -/

namespace Sys2Proof.Machine

/-! ### The conditions, by group -/

/-- R70, R132: the slots, the grant, the attempt and the track agree. -/
def WorkOk (s : State) : Prop := GrantOk s ∧ TrackOk s

/-- The ports and the values of section 9.1, R88, R152 and R206 lie in their bounds. -/
def BoundsOk (s : State) : Prop := PortsOk s ∧ RangesOk s

/-- The bounds of one port record (R200, R205). -/
def PortOk (q : PortRecord) : Prop := q.replies.length ≤ 8 ∧ q.defaultLevel.rank ≤ q.ceiling.rank

theorem portsOk_iff (s : State) : PortsOk s ↔ ∀ p, PortOk (portRecord s p) := Iff.rfl

theorem TableOk.congr {s t : State} (h : TableOk s) (sets : t.sets = s.sets) : TableOk t := by
  intro k; simpa [setAt, sets] using h k

theorem WorkOk.congr {s t : State} (h : WorkOk s) (slots : t.slots = s.slots) (grant : t.grant = s.grant)
    (attempt : t.attempt = s.attempt) (track : t.track = none ↔ s.track = none) : WorkOk t := by
  simpa [WorkOk, GrantOk, TrackOk, slotAt, slots, grant, attempt, track] using h

theorem PowerOk.congr {s t : State} (h : PowerOk s) (power : t.power = s.power) (drive : t.drive = s.drive) :
    PowerOk t := by
  simpa [PowerOk, power, drive] using h

theorem BoundsOk.congr {s t : State} (h : BoundsOk s) (ports : t.ports = s.ports) (clock : t.clock = s.clock)
    (settings : t.settings = s.settings) (encoder : t.encoder = s.encoder)
    (omega : t.station.omega = s.station.omega) : BoundsOk t := by
  simpa [BoundsOk, PortsOk, RangesOk, portRecord, ports, clock, settings, encoder, omega] using h

/-- R82, R125: the aim in slot `i` has lost the axes and has not left its slot yet: the grant names no aim, no attempt
is in flight, and no other slot holds an ACTIVE aim. -/
def Ended (i : SlotNo) (s : State) : Prop :=
  (∀ j, j ≠ i → (slotAt s j).any (fun a => a.state = .active) = false) ∧ s.grant.active = none ∧ s.attempt = none
    ∧ TrackOk s

theorem Ended.congr {i : SlotNo} {s t : State} (h : Ended i s) (slots : t.slots = s.slots) (grant : t.grant = s.grant)
    (attempt : t.attempt = s.attempt) (track : t.track = none ↔ s.track = none) : Ended i t := by
  simpa [Ended, TrackOk, slotAt, slots, grant, attempt, track] using h

/-! ### Carrying the conditions from a state to a later one -/

/-- From `s` to `t` every condition carries over, the one over the work in hand from `A` to `B`, and the queue of
commands is as it was. -/
structure Carries (A B : State → Prop) (s t : State) : Prop where
  table : TableOk s → TableOk t
  work : A s → B t
  power : PowerOk s → PowerOk t
  bounds : BoundsOk s → BoundsOk t
  queue : t.pending = s.pending

/-- Every condition of Safety.lean that holds in `s` holds in `t`, and the queue of commands is as it was. -/
abbrev Keeps (s t : State) : Prop := Carries WorkOk WorkOk s t

theorem Carries.trans {A B C : State → Prop} {s t u : State} (h : Carries A B s t) (k : Carries B C t u) :
    Carries A C s u :=
  ⟨k.table ∘ h.table, k.work ∘ h.work, k.power ∘ h.power, k.bounds ∘ h.bounds, k.queue.trans h.queue⟩

theorem Carries.refl {A : State → Prop} (s : State) : Carries A A s s := ⟨id, id, id, id, rfl⟩

theorem Carries.ite {A B : State → Prop} {s t u : State} {c : Prop} [Decidable c] (h : c → Carries A B s t)
    (k : ¬ c → Carries A B s u) : Carries A B s (if c then t else u) := by
  split
  · exact h ‹_›
  · exact k ‹_›

/-- A change of the table alone. -/
theorem keeps_of_table {s t : State} (table : TableOk s → TableOk t) (h : t = { s with sets := t.sets }) :
    Keeps s t := by
  rw [h] at table ⊢; exact ⟨table, id, id, id, rfl⟩

/-- A change of the drive and the power state alone. -/
theorem keeps_of_power {s t : State} (power : PowerOk s → PowerOk t)
    (h : t = { s with power := t.power, drive := t.drive }) : Keeps s t := by
  rw [h] at power ⊢; exact ⟨id, id, power, id, rfl⟩

/-- A change of the slots, the grant, the attempt and the track alone. -/
theorem carries_of_work {A B : State → Prop} {s t : State} (work : A s → B t)
    (h : t = { s with slots := t.slots, grant := t.grant, attempt := t.attempt, track := t.track }) :
    Carries A B s t := by
  rw [h] at work ⊢; exact ⟨id, work, id, id, rfl⟩

/-! ### Ports -/

theorem forall_port_putPort {α : Type} {q : α → Prop} {m : PerPort α} {p : Port} {x : α} (h : ∀ r, q (atPort m r))
    (hx : q x) (r : Port) : q (atPort (putPort m p x) r) := by
  by_cases e : r = p
  · rw [e, atPort_putPort_same]; exact hx
  · rw [atPort_putPort_other _ _ e]; exact h r

/-- A change of one port record that keeps its bounds. -/
theorem keeps_modPort {s : State} {p : Port} {f : PortRecord → PortRecord}
    (h : PortOk (portRecord s p) → PortOk (f (portRecord s p))) : Keeps s (modPort s p f) :=
  ⟨id, id, id, fun b => ⟨forall_port_putPort (q := PortOk) b.1 (h (b.1 p)), b.2⟩, rfl⟩

@[simp] theorem portOk_pulseAt (now : Nat) (q : PortRecord) : PortOk (pulseAt now q) ↔ PortOk q := by
  unfold pulseAt; split <;> rfl

@[simp] theorem portOk_addNotice (now : Nat) (k : Notice) (q : PortRecord) : PortOk (addNotice now k q) ↔ PortOk q := by
  unfold addNotice; split
  · rfl
  · rw [portOk_pulseAt]; rfl

theorem keeps_clockOut (s : State) (p : Port) (b : List Byte) : Keeps s (clockOut s p b) := keeps_modPort id

theorem keeps_hold (s : State) (p : Port) (h : Held) : Keeps s (hold s p h) := keeps_modPort id

/-- R200: a record appended where a place is free. -/
theorem keeps_appendReply {s : State} {p : Port} (r : Reply) (room : (portRecord s p).replies.length < 8) :
    Keeps s (appendReply s p r) :=
  keeps_modPort fun ok => by rw [portOk_pulseAt]; exact
      ⟨by simp only [List.length_append, List.length_singleton]; omega, ok.2⟩

theorem room_of_hasRoom {s : State} {p : Port} (h : hasRoom s p = true) : (portRecord s p).replies.length < 8 := by
  simp only [hasRoom, Bool.and_eq_true, decide_eq_true_eq] at h; exact h.1

theorem keeps_postReply (s : State) (p : Port) (r : Reply) (d : Bool) : Keeps s (postReply s p r d) := by
  unfold postReply
  exact .ite (fun h => keeps_appendReply r (room_of_hasRoom h)) (fun _ => keeps_hold _ _ _)

theorem keeps_notify (s : State) (p : Port) (k : Notice) : Keeps s (notify s p k) :=
  keeps_modPort fun ok => by simpa using ok

theorem keeps_notifyAll (s : State) (k : Notice) : Keeps s (notifyAll s k) :=
  ((keeps_notify s .a k).trans (keeps_notify _ .b k)).trans (keeps_notify _ .c k)

/-- A free place in a port's reply queue. -/
def Room (s : State) (p : Port) : Prop := (portRecord s p).replies.length < 8

theorem Room.congr {s t : State} {p : Port} (h : Room s p) (ports : t.ports = s.ports) : Room t p := by
  simpa [Room, portRecord, ports] using h

theorem Room.modPort {s : State} {p q : Port} {f : PortRecord → PortRecord} (h : Room s p)
    (replies : ∀ r, (f r).replies = r.replies) : Room (modPort s q f) p := by
  by_cases e : p = q
  · subst e; simpa [Room, replies] using h
  · simpa [Room, portRecord_modPort_other _ _ e] using h

@[simp] theorem replies_pulseAt (now : Nat) (q : PortRecord) : (pulseAt now q).replies = q.replies := by
  unfold pulseAt; split <;> rfl

@[simp] theorem replies_addNotice (now : Nat) (k : Notice) (q : PortRecord) :
    (addNotice now k q).replies = q.replies := by
  unfold addNotice; split
  · rfl
  · rw [replies_pulseAt]

theorem Room.notifyAll {s : State} {p : Port} (h : Room s p) (k : Notice) : Room (notifyAll s k) p :=
  ((h.modPort (fun _ => replies_addNotice ..)).modPort (fun _ => replies_addNotice ..)).modPort
    (fun _ => replies_addNotice ..)

theorem keeps_answer {s : State} {f : Frame} (body : List Byte) (room : Room s f.port) : Keeps s (answer s f body) :=
  keeps_appendReply _ room

theorem keeps_refuse {s : State} {f : Frame} (st : Status) (room : Room s f.port) : Keeps s (refuse s f st) :=
  keeps_appendReply _ room

/-! ### Slots -/

/-- The aim of a slot, if any, is not ACTIVE. -/
def NotActive (a : Option Aim) : Prop := a.any (fun a => a.state = .active) = false

@[simp] theorem notActive_none : NotActive none := rfl

@[simp] theorem notActive_some (a : Aim) : NotActive (some a) ↔ a.state ≠ .active := by simp [NotActive]

theorem track_putSlot_eq_none (s : State) (i : SlotNo) (a : Option Aim) :
    (putSlot s i a).track = none ↔ s.track = none := by
  simp [putSlot]

theorem trackOk_putSlot (s : State) (i : SlotNo) (a : Option Aim) : TrackOk (putSlot s i a) ↔ TrackOk s := by
  simp only [TrackOk, track_putSlot_eq_none, putSlot_keeps]

/-- R64: a slot that holds no ACTIVE aim takes another such aim, or becomes free. -/
theorem keeps_putSlot {s : State} {i : SlotNo} {a : Option Aim} (old : NotActive (slotAt s i)) (new : NotActive a) :
    Keeps s (putSlot s i a) := by
  refine carries_of_work (fun ⟨⟨named, inFlight⟩, track⟩ =>
      ⟨⟨fun j => ?_, inFlight⟩, (trackOk_putSlot s i a).mpr track⟩) rfl
  show _ ↔ s.grant.active = some j
  by_cases e : j = i
  · subst e
    rw [slotAt_putSlot_same, new, ← named, old]
  · rw [slotAt_putSlot_other _ _ e]; exact named j

/-- R80, R82: the aim that has lost the axes leaves the ACTIVE state. -/
theorem carries_putSlot_ended {s : State} {i : SlotNo} {a : Option Aim} (new : NotActive a) :
    Carries (Ended i) WorkOk s (putSlot s i a) := by
  refine carries_of_work (fun ⟨others, active, attempt, track⟩ =>
    ⟨⟨fun j => ?_, by simp [active, attempt]⟩, (trackOk_putSlot s i a).mpr track⟩) rfl
  show _ ↔ s.grant.active = some j
  rw [active]
  by_cases e : j = i
  · subst e
    rw [slotAt_putSlot_same, new]; simp
  · rw [slotAt_putSlot_other _ _ e, others j e]; simp

end Sys2Proof.Machine
end

section
/-! PROOFS. The order and the contents of a set (R23, R27, R29): what each write to a way keeps. -/

namespace Sys2Proof.Machine

/-! ### The conditions on a set, one by one -/

/-- `TableSet.ok` in propositions: no invalid way stands before a valid one. -/
structure SetOk (k : Fin 32) (t : TableSet) : Prop where
  perm : t.order.Perm allWays
  validFirst : t.order.Pairwise (fun v w => t.ways[w].isSome = true → t.ways[v].isSome = true)
  home : ∀ (w : Fin 4) e, t.ways[w] = some e → setOf e.id = k ∧ (e.pinned = true ∨ e.rounds = 0#4)
  distinct : ∀ (v w : Fin 4) d e, t.ways[v] = some d → t.ways[w] = some e → d.id = e.id → v = w
  pins : pinCount t ≤ 3

theorem mem_allWays (w : Fin 4) : w ∈ allWays := by decide +revert

/-- Behind the first element that fails a test none passes it, exactly when every element before one that passes
does. -/
theorem all_dropWhile_iff_pairwise {α : Type} (p : α → Bool) (l : List α) :
    (l.dropWhile p).all (fun x => !p x) = true ↔ l.Pairwise (fun x y => p y = true → p x = true) := by
  induction l with
  | nil => simp
  | cons x l ih =>
    cases hx : p x
    · simp [hx]
      intro h
      exact List.pairwise_iff_forall_sublist.mpr fun {a b} hab hb => by
        have := h b (hab.subset (by simp)); simp [this] at hb
    · simp [hx, ih]

theorem validFirst_iff (t : TableSet) :
    validFirst t = true ↔ t.order.Pairwise (fun v w => t.ways[w].isSome = true → t.ways[v].isSome = true) := by
  rw [validFirst, ← all_dropWhile_iff_pairwise (fun w : Fin 4 => t.ways[w].isSome)]
  simp only [Option.not_isSome]

theorem setOk_iff (k : Fin 32) (t : TableSet) : t.ok k = true ↔ SetOk k t := by
  have home : allWays.all (fun w => t.ways[w].all (fun e => setOf e.id = k && (e.pinned || e.rounds = 0#4))) = true ↔
      ∀ (w : Fin 4) e, t.ways[w] = some e → setOf e.id = k ∧ (e.pinned = true ∨ e.rounds = 0#4) := by
    simp [Option.all_eq_true, mem_allWays]
  have distinct : allWays.all (fun v => allWays.all (fun w =>
      v = w || t.ways[v].all (fun d => t.ways[w].all (fun e => d.id != e.id)))) = true ↔
      ∀ (v w : Fin 4) d e, t.ways[v] = some d → t.ways[w] = some e → d.id = e.id → v = w := by
    simp only [List.all_eq_true, mem_allWays, Option.all_eq_true, Bool.or_eq_true, decide_eq_true_eq, bne_iff_ne,
      forall_const]
    grind
  simp only [TableSet.ok, Bool.and_eq_true, home, distinct, validFirst_iff, List.isPerm_iff, decide_eq_true_eq]
  exact ⟨fun ⟨⟨⟨⟨a, b⟩, c⟩, d⟩, e⟩ => ⟨a, b, c, d, e⟩, fun ⟨a, b, c, d, e⟩ => ⟨⟨⟨⟨a, b⟩, c⟩, d⟩, e⟩⟩

theorem tableOk_iff (s : State) : TableOk s ↔ ∀ k, SetOk k (setAt s k) := forall_congr' fun k => setOk_iff k _

/-! ### Writing one way -/

@[simp] theorem ways_set_same (v : Vector (Option Entry) 4) (w : Fin 4) (x : Option Entry) : (v.set w x)[w] = x := by
  simp

theorem ways_set_other (v : Vector (Option Entry) 4) {w u : Fin 4} (x : Option Entry) (h : u ≠ w) :
    (v.set w x)[u] = v[u] := by
  have : (w : Nat) ≠ u := fun e => h (Fin.ext e.symm)
  simp [this]

theorem nodup_allWays : allWays.Nodup := by decide

theorem SetOk.nodup {k : Fin 32} {t : TableSet} (h : SetOk k t) : t.order.Nodup :=
  h.perm.nodup_iff.mpr nodup_allWays

theorem SetOk.mem {k : Fin 32} {t : TableSet} (h : SetOk k t) (w : Fin 4) : w ∈ t.order :=
  h.perm.mem_iff.mpr (mem_allWays w)

/-- The order of the other ways keeps the valid ones first, whatever one way takes. -/
theorem SetOk.pairwise_erase {k : Fin 32} {t : TableSet} (h : SetOk k t) (w : Fin 4) (x : Option Entry) :
    (t.order.erase w).Pairwise (fun u v => (t.ways.set w x)[v].isSome = true → (t.ways.set w x)[u].isSome = true) := by
  have off : ∀ u ∈ t.order.erase w, u ≠ w := fun u hu e => by
    subst e; exact h.nodup.not_mem_erase hu
  refine (h.validFirst.sublist List.erase_sublist).imp_of_mem fun {u v} hu hv => ?_
  rw [ways_set_other _ _ (off u hu), ways_set_other _ _ (off v hv)]
  exact id

theorem countP_allWays_replace (p : Fin 4 → Bool) (w : Fin 4) (b : Bool) :
    allWays.countP (fun u => if u = w then b else p u)
      = allWays.countP (fun u => u != w && p u) + (if b = true then 1 else 0) := by
  have named : w = 0 ∨ w = 1 ∨ w = 2 ∨ w = 3 := by revert w; decide
  rcases named with rfl | rfl | rfl | rfl <;> simp [allWays, List.countP_cons] <;> omega

theorem countP_others_le (p : Fin 4 → Bool) (w : Fin 4) : allWays.countP (fun u => u != w && p u) ≤ allWays.countP p :=
  List.countP_mono_left fun u _ h => by simp at h; exact h.2

/-- R29: how many pinned entries a set holds after a write, from those of its other ways. -/
theorem pinCount_set (t : TableSet) (w : Fin 4) (x : Option Entry) (order : List (Fin 4)) :
    pinCount { ways := t.ways.set w x, order := order }
      = allWays.countP (fun u => u != w && t.ways[u].any (fun e => e.pinned))
        + (if x.any (fun e => e.pinned) = true then 1 else 0) := by
  have split : ∀ u : Fin 4, (t.ways.set w x)[u].any (fun e => e.pinned)
      = if u = w then x.any (fun e => e.pinned) else t.ways[u].any (fun e => e.pinned) := by
    intro u; split
    · next e => subst e; rw [ways_set_same]
    · next e => rw [ways_set_other _ _ e]
  unfold pinCount
  simp only [split]
  exact countP_allWays_replace (fun u => t.ways[u].any (fun e => e.pinned)) w _

/-- R28: an entry of the set takes a way and moves to most recent. Its ID is in no other way, and it makes no fourth
pin. -/
theorem SetOk.store {k : Fin 32} {t : TableSet} {w : Fin 4} {e : Entry} (h : SetOk k t) (home : setOf e.id = k)
    (member : e.pinned = true ∨ e.rounds = 0#4) (alone : ∀ v d, v ≠ w → t.ways[v] = some d → d.id ≠ e.id)
    (pins : e.pinned = true → allWays.countP (fun u => u != w && t.ways[u].any (fun e => e.pinned)) < 3) :
    SetOk k { ways := t.ways.set w (some e), order := toFront t.order w } where
  perm := (List.perm_cons_erase (h.mem w)).symm.trans h.perm
  validFirst := List.pairwise_cons.mpr ⟨fun v _ _ => by simp, h.pairwise_erase w (some e)⟩
  home := by
    intro v d hd
    by_cases hv : v = w
    · subst hv; rw [ways_set_same] at hd; cases hd; exact ⟨home, member⟩
    · rw [ways_set_other _ _ hv] at hd; exact h.home v d hd
  distinct := by
    intro u v c d hc hd same
    by_cases hu : u = w <;> by_cases hv : v = w
    · rw [hu, hv]
    · subst hu; rw [ways_set_same] at hc; rw [ways_set_other _ _ hv] at hd; cases hc
      exact absurd same.symm (alone v d hv hd)
    · subst hv; rw [ways_set_same] at hd; rw [ways_set_other _ _ hu] at hc; cases hd
      exact absurd same (alone u c hu hc)
    · rw [ways_set_other _ _ hu] at hc; rw [ways_set_other _ _ hv] at hd; exact h.distinct u v c d hc hd same
  pins := by
    rw [pinCount_set]
    have others := countP_others_le (fun u => t.ways[u].any (fun e => e.pinned)) w
    have held : pinCount t ≤ 3 := h.pins
    cases pinned : e.pinned with
    | true =>
      have room := pins pinned
      rw [Option.any_some, pinned, if_pos rfl]
      exact room
    | false =>
      rw [Option.any_some, pinned, if_neg Bool.false_ne_true]
      exact Nat.le_trans others held

/-- R38: a way becomes invalid and moves to the tail. -/
theorem SetOk.drop {k : Fin 32} {t : TableSet} (h : SetOk k t) (w : Fin 4) :
    SetOk k { ways := t.ways.set w none, order := toTail t.order w } where
  perm := (List.perm_append_comm.trans (List.perm_cons_erase (h.mem w)).symm).trans h.perm
  validFirst := List.pairwise_append.mpr ⟨h.pairwise_erase w none, List.pairwise_singleton _ _, fun v _ u hu => by
    rw [List.mem_singleton.mp hu]; simp⟩
  home := by
    intro v d hd
    by_cases hv : v = w
    · subst hv; rw [ways_set_same] at hd; cases hd
    · rw [ways_set_other _ _ hv] at hd; exact h.home v d hd
  distinct := by
    intro u v c d hc hd
    by_cases hu : u = w
    · subst hu; rw [ways_set_same] at hc; cases hc
    · by_cases hv : v = w
      · subst hv; rw [ways_set_same] at hd; cases hd
      · rw [ways_set_other _ _ hu] at hc; rw [ways_set_other _ _ hv] at hd; exact h.distinct u v c d hc hd
  pins := by
    rw [pinCount_set]
    exact Nat.le_trans (countP_others_le (fun u => t.ways[u].any (fun e => e.pinned)) w) h.pins

/-! ### The part-wide reset of a set -/

/-- R46: what a way keeps. -/
theorem ways_resetSet (t : TableSet) (w : Fin 4) : (resetSet t).ways[w] = t.ways[w].filter (fun e => e.pinned) := by
  simp [resetSet]

theorem isSome_resetSet (t : TableSet) (w : Fin 4) :
    (resetSet t).ways[w].isSome = t.ways[w].any (fun e => e.pinned) := by
  rw [ways_resetSet]
  cases t.ways[w] with
  | none => rfl
  | some e => cases h : e.pinned <;> simp [Option.filter, h]

/-- R46: the ways of the order, sorted into those that stay valid, those that become invalid and those that were. -/
theorem perm_order_resetSet (t : TableSet) : (resetSet t).order.Perm t.order := by
  let valid : Fin 4 → Bool := fun w => t.ways[w].isSome
  let pinned : Fin 4 → Bool := fun w => t.ways[w].any (fun e => e.pinned)
  have order : (resetSet t).order = ((t.order.filter valid).filter pinned
      ++ (t.order.filter valid).filter (fun w => !pinned w)) ++ t.order.filter (fun w => !valid w) := by
    simp only [resetSet, List.filter_filter]
    refine congr (congrArg _ (congr (congrArg _ ?_) ?_)) ?_ <;>
      refine List.filter_congr fun w _ => ?_ <;> simp only [valid, pinned] <;> cases t.ways[w] <;> simp
  rw [order]
  exact ((List.filter_append_perm pinned _).append_right _).trans (List.filter_append_perm valid _)

/-- R46: a set keeps its pinned entries in their order, before the ways that are invalid now. -/
theorem SetOk.reset {k : Fin 32} {t : TableSet} (h : SetOk k t) : SetOk k (resetSet t) where
  perm := (perm_order_resetSet t).trans h.perm
  validFirst := by
    have kept : ∀ v ∈ t.order.filter (fun w => t.ways[w].any (fun e => e.pinned)), (resetSet t).ways[v].isSome = true :=
      fun v hv => by rw [isSome_resetSet]; exact (List.mem_filter.mp hv).2
    have dropped : ∀ v ∈ t.order.filter (fun w => t.ways[w].any (fun e => !e.pinned))
        ++ t.order.filter (fun w => t.ways[w].isNone), (resetSet t).ways[v].isSome = false := by
      intro v hv
      rw [isSome_resetSet]
      rw [List.mem_append, List.mem_filter, List.mem_filter] at hv
      cases held : t.ways[v] with
      | none => rfl
      | some e => simpa [held] using hv.imp And.right And.right
    show (_ ++ _ ++ _ : List (Fin 4)).Pairwise _
    rw [List.append_assoc, List.pairwise_append]
    refine ⟨List.pairwise_of_forall_mem_list fun v hv _ _ _ => kept v hv,
      List.pairwise_of_forall_mem_list fun v _ w hw valid => ?_, fun v hv _ _ _ => kept v hv⟩
    rw [dropped w hw] at valid; cases valid
  home := by
    intro w e he
    rw [ways_resetSet, Option.filter_eq_some_iff] at he
    exact h.home w e he.1
  distinct := by
    intro v w d e hd he
    rw [ways_resetSet, Option.filter_eq_some_iff] at hd he
    exact h.distinct v w d e hd.1 he.1
  pins := by
    refine Nat.le_trans (List.countP_mono_left fun w _ hw => ?_) h.pins
    rw [ways_resetSet] at hw
    simp only [Option.any_eq_true] at hw ⊢
    obtain ⟨e, he, pinned⟩ := hw
    exact ⟨e, (Option.filter_eq_some_iff.mp he).1, pinned⟩

end Sys2Proof.Machine
end

section
/-! PROOFS. The operations over the table and the reservations keep the conditions of Safety.lean (chapters 2 and 3). -/

namespace Sys2Proof.Machine

/-! ### The lookup -/

theorem findWay_eq_some {t : TableSet} {id : Nat} {w : Fin 4} (h : findWay t id = some w) :
    ∃ e, t.ways[w] = some e ∧ e.id = id := by
  have := List.find?_some h
  simpa [Option.any_eq_true] using this

theorem findWay_eq_none {t : TableSet} {id : Nat} (h : findWay t id = none) {w : Fin 4} {e : Entry}
    (held : t.ways[w] = some e) : e.id ≠ id := by
  have := List.find?_eq_none.mp h w (mem_allWays w)
  simp only [held, Option.any_some, decide_eq_true_eq] at this
  exact this

/-- R23: the way that carries an ID holds the entry of that ID. -/
theorem locate_eq_some {s : State} {id : Nat} {w : Fin 4} {e : Entry} (h : locate s id = some (w, e)) :
    (setAt s (setOf id)).ways[w] = some e ∧ e.id = id := by
  simp only [locate, Option.bind_eq_some_iff, Option.map_eq_some_iff, Prod.mk.injEq] at h
  obtain ⟨v, found, d, held, rfl, rfl⟩ := h
  obtain ⟨c, hc, same⟩ := findWay_eq_some found
  rw [held] at hc; cases hc
  exact ⟨held, same⟩

/-- R23: an ID without a way is the ID of no entry of its set. -/
theorem locate_eq_none {s : State} {id : Nat} (h : locate s id = none) {w : Fin 4} {e : Entry}
    (held : (setAt s (setOf id)).ways[w] = some e) : e.id ≠ id := by
  intro same
  cases found : findWay (setAt s (setOf id)) id with
  | none => exact findWay_eq_none found held same
  | some v =>
    obtain ⟨d, hd, -⟩ := findWay_eq_some found
    simp only [locate, found, Option.bind_some, hd, Option.map_some, reduceCtorEq] at h

/-! ### Writes to a set -/

theorem TableOk.putSet {s : State} {k : Fin 32} {t : TableSet} (h : TableOk s) (ok : SetOk k t) :
    TableOk (putSet s k t) := by
  rw [tableOk_iff] at h ⊢
  intro j
  by_cases e : j = k
  · subst e; rw [setAt_putSet_same]; exact ok
  · rw [setAt_putSet_other _ _ e]; exact h j

theorem TableOk.setOk {s : State} (h : TableOk s) (k : Fin 32) : SetOk k (setAt s k) := (tableOk_iff s).mp h k

/-- R28: an entry with the ID, the pin and the rounds of the one in its way takes the way and moves to most recent. -/
theorem keeps_storeEntry_same {s : State} {k : Fin 32} {w : Fin 4} {d e : Entry} (held : (setAt s k).ways[w] = some d)
    (id : e.id = d.id) (pinned : e.pinned = d.pinned) (rounds : e.rounds = d.rounds) :
    Keeps s (storeEntry s k w e) := by
  refine keeps_of_table (fun ok => ok.putSet ?_) rfl
  have set := ok.setOk k
  obtain ⟨home, member⟩ := set.home w d held
  refine set.store (id ▸ home) (by rw [pinned, rounds]; exact member) (fun v c hv hc same => ?_) (fun pin => ?_)
  · exact hv (set.distinct v w c d hc held (same.trans id))
  · have replaced := countP_allWays_replace (fun u => (setAt s k).ways[u].any (fun e => e.pinned)) w true
    have all : pinCount (setAt s k) = allWays.countP (fun u => if u = w then true
        else (setAt s k).ways[u].any (fun e => e.pinned)) := by
      refine List.countP_congr fun u _ => ?_
      split
      · next e => subst e; simp [held, ← pinned, pin]
      · rfl
    have := set.pins
    simp only [if_true] at replaced
    omega

/-- R36, R37: an entry written under R29's limit takes a way, its ID in no other way of its set. -/
theorem keeps_storeEntry_write {s : State} {w : WriteFields} {way : Fin 4} {e : Entry} (id : e.id = w.id)
    (pinned : e.pinned = storedPinned w) (rounds : e.rounds = w.rounds) (limit : overPinned s w = false)
    (alone : SetOk (setOf w.id) (setAt s (setOf w.id)) →
      ∀ v d, v ≠ way → (setAt s (setOf w.id)).ways[v] = some d → d.id ≠ w.id) :
    Keeps s (storeEntry s (setOf w.id) way e) := by
  refine keeps_of_table (fun ok => ok.putSet ?_) rfl
  have alone := alone (ok.setOk _)
  refine (ok.setOk _).store (by rw [id]) ?_ (fun v d hv hd => id ▸ alone v d hv hd) (fun pin => ?_)
  · rw [pinned, rounds, storedPinned]; cases h : decide (w.rounds = 0#4) <;> simp_all
  · have others : otherPins (setAt s (setOf w.id)) w.id < 3 := by
      simp only [overPinned, ← pinned, pin, Bool.true_and, decide_eq_false_iff_not] at limit; omega
    refine Nat.lt_of_le_of_lt (List.countP_mono_left fun u _ hu => ?_) others
    simp only [Bool.and_eq_true, bne_iff_ne, Option.any_eq_true] at hu ⊢
    obtain ⟨hu, d, hd, pin⟩ := hu
    exact ⟨d, hd, pin, alone u d hu hd⟩

/-- A change of an entry that leaves its ID, its pin and its rounds. -/
theorem keeps_updateEntry {s : State} {id : Nat} {f : Entry → Entry}
    (h : ∀ e, (f e).id = e.id ∧ (f e).pinned = e.pinned ∧ (f e).rounds = e.rounds) : Keeps s (updateEntry s id f) := by
  unfold updateEntry
  split
  · next w e found => exact keeps_storeEntry_same (locate_eq_some found).1 (h e).1 (h e).2.1 (h e).2.2
  · exact .refl s

theorem keeps_touchEntry (s : State) (id : Nat) : Keeps s (touchEntry s id) :=
  keeps_updateEntry fun _ => ⟨rfl, rfl, rfl⟩

theorem keeps_dropWay (s : State) (k : Fin 32) (w : Fin 4) : Keeps s (dropWay s k w) :=
  keeps_of_table (fun ok => ok.putSet ((ok.setOk k).drop w)) rfl

/-! ### Reservations -/

theorem keeps_putClaim (s : State) (p : Port) (c : Claim) : Keeps s (putClaim s p c) := ⟨id, id, id, id, rfl⟩

theorem keeps_breakClaim (s : State) (p : Port) (id : Nat) (cause : ChangeCause) :
    Keeps s (breakClaim s p id cause) := by
  unfold breakClaim
  refine .ite (fun _ => ?_) fun _ => .refl s
  split
  · exact (keeps_putClaim ..).trans (keeps_postReply ..)
  · exact keeps_putClaim ..

theorem keeps_reportModification (s : State) (id : Nat) (cause : ChangeCause) :
    Keeps s (reportModification s id cause) :=
  ((keeps_breakClaim s .a id cause).trans (keeps_breakClaim _ .b id cause)).trans (keeps_breakClaim _ .c id cause)

theorem keeps_observeEntry {s : State} {id : Nat} {f : Entry → Entry}
    (h : ∀ e, (f e).id = e.id ∧ (f e).pinned = e.pinned ∧ (f e).rounds = e.rounds) : Keeps s (observeEntry s id f) := by
  unfold observeEntry
  split
  · exact (keeps_updateEntry h).trans (keeps_reportModification ..)
  · exact .refl s

theorem keeps_reserve (s : State) (p : Port) (id : Nat) : Keeps s (reserve s p id) := by
  simp only [reserve]
  split
  · exact (keeps_putClaim ..).trans (keeps_postReply ..)
  · exact keeps_putClaim ..

/-! ### The table's requests -/

theorem keeps_readTarget {s : State} {f : Frame} (id : Nat) (reserving : Bool) (room : Room s f.port) :
    Keeps s (readTarget s f id reserving) := by
  unfold readTarget
  split
  · exact keeps_refuse _ room
  · have answered (body : List Byte) : Keeps s (answer (touchEntry s id) f body) :=
      (keeps_touchEntry s id).trans (keeps_answer body (room.congr (by simp)))
    exact .ite (fun _ => (answered _).trans (keeps_reserve ..)) fun _ => answered _

theorem keeps_insertEntry {s : State} {f : Frame} {w : WriteFields} (d : Direction) (way : Fin 4) (room : Room s f.port)
    (absent : locate s w.id = none) (limit : overPinned s w = false) : Keeps s (insertEntry s f w d way) := by
  have stored : Keeps s (storeEntry s (setOf w.id) way (insertedEntry w d f.port)) :=
    keeps_storeEntry_write rfl rfl rfl limit fun _ _ _ _ held => locate_eq_none absent held
  simp only [insertEntry]
  split
  · exact (stored.trans (keeps_answer _ (room.congr rfl))).trans (keeps_reportModification ..)
  · exact stored.trans (keeps_answer _ (room.congr rfl))

theorem rewrittenEntry_fields (w : WriteFields) (e : Entry) : (rewrittenEntry w e).id = e.id
    ∧ (rewrittenEntry w e).pinned = storedPinned w ∧ (rewrittenEntry w e).rounds = w.rounds := by
  simp only [rewrittenEntry]; split <;> exact ⟨rfl, rfl, rfl⟩

theorem keeps_writePresent {s : State} {f : Frame} {w : WriteFields} {way : Fin 4} {e : Entry} (room : Room s f.port)
    (present : locate s w.id = some (way, e)) : Keeps s (writePresent s f w way e) := by
  refine .ite (fun _ => keeps_refuse _ room) fun limit => ?_
  obtain ⟨held, same⟩ := locate_eq_some present
  obtain ⟨id, pinned, rounds⟩ := rewrittenEntry_fields w e
  have stored : Keeps s (storeEntry s (setOf w.id) way (rewrittenEntry w e)) :=
    keeps_storeEntry_write (id.trans same) pinned rounds (by simpa using limit) fun ok v d hv hd clash =>
      hv (ok.distinct v way d e hd held (clash.trans same.symm))
  exact (stored.trans (keeps_answer _ (room.congr rfl))).trans (keeps_reportModification ..)

theorem keeps_writeAbsent {s : State} {f : Frame} {w : WriteFields} (room : Room s f.port)
    (absent : locate s w.id = none) : Keeps s (writeAbsent s f w) := by
  unfold writeAbsent
  split
  · exact keeps_refuse _ room
  · refine .ite (fun _ => keeps_refuse _ room) fun limit => ?_
    split
    · exact keeps_refuse _ room
    · exact keeps_insertEntry _ _ room absent (by simpa using limit)

theorem keeps_writeTarget {s : State} {f : Frame} (w : WriteFields) (room : Room s f.port) :
    Keeps s (writeTarget s f w) := by
  unfold writeTarget
  split
  · next present => exact keeps_writePresent room present
  · next absent => exact keeps_writeAbsent room absent

theorem keeps_writeIfReserved {s : State} {f : Frame} (w : WriteFields) (room : Room s f.port) :
    Keeps s (writeIfReserved s f w) := by
  refine .ite (fun _ => ?_) fun _ => keeps_refuse _ room
  split
  · next present => exact keeps_writePresent room present
  · exact keeps_refuse _ room

theorem keeps_forgetTarget {s : State} {f : Frame} (id : Nat) (room : Room s f.port) :
    Keeps s (forgetTarget s f id) := by
  unfold forgetTarget
  split
  · exact keeps_refuse _ room
  · refine .ite (fun _ => keeps_appendReply _ room) fun _ => .ite (fun _ => keeps_refuse _ room) fun _ => ?_
    exact ((keeps_dropWay ..).trans (keeps_answer _ (room.congr rfl))).trans (keeps_reportModification ..)

theorem keeps_waitChange {s : State} {f : Frame} (room : Room s f.port) : Keeps s (waitChange s f) :=
  .ite (fun _ => keeps_refuse _ room) fun _ => .ite (fun _ => keeps_refuse _ room) fun _ => keeps_putClaim ..

end Sys2Proof.Machine
end

section
/-! PROOFS. The operations over the drive, the power state, the track, the queue and the rounds keep the conditions of
Safety.lean (chapters 4, 5, 7, 9 and 10). -/

namespace Sys2Proof.Machine

/-! ### The drive -/

/-- R187: the states of the drive that go with RUN. -/
def Drive.inRun : Drive → Bool
  | .holding _ | .moving _ | .fault _ => true
  | .off | .settling => false

theorem powerOk_iff (s : State) : PowerOk s ↔ match s.power with
    | .rest => s.drive = .off
    | .waking _ _ => s.drive = .settling
    | .run _ => s.drive.inRun = true := by
  unfold PowerOk
  cases s.power <;> cases s.drive <;> simp [Drive.inRun]

/-- R187: a drive in HOLDING, MOVING or FAULT changes among these states in RUN alone. -/
theorem keeps_drive {s : State} {d : Drive} (old : s.drive.inRun = true) (new : d.inRun = true) :
    Keeps s { s with drive := d } := by
  refine keeps_of_power (fun ok => ?_) rfl
  rw [powerOk_iff] at ok ⊢
  cases h : s.power <;> simp_all [Drive.inRun]

theorem keeps_commandMove (s : State) (target : Pointing) (c : Commander) : Keeps s (commandMove s target c) := by
  unfold commandMove
  split
  · next h => exact keeps_drive (by simp [h, Drive.inRun]) rfl
  · next h => exact keeps_drive (by simp [h, Drive.inRun]) rfl
  · exact .refl s

theorem keeps_stopDrive (s : State) : Keeps s (stopDrive s) := by
  unfold stopDrive
  split
  · next h => exact .ite (fun _ => .refl s) fun _ => keeps_drive (by simp [h, Drive.inRun]) rfl
  · exact .refl s

theorem keeps_stopTrackMove (s : State) : Keeps s (stopTrackMove s) := by
  unfold stopTrackMove
  split
  · exact .ite (fun _ => keeps_stopDrive s) fun _ => .refl s
  · exact .refl s

theorem keeps_driveClearFault (s : State) : Keeps s (driveClearFault s) := by
  unfold driveClearFault
  split
  · next h => exact keeps_drive (by simp [h, Drive.inRun]) rfl
  · exact .refl s

theorem keeps_sendDistanceRequest (s : State) (c : Commander) :
    Keeps s (sendDistanceRequest s c) := ⟨id, id, id, id, rfl⟩

theorem keeps_abandonRequest (s : State) (c : Commander) : Keeps s (abandonRequest s c) := ⟨id, id, id, id, rfl⟩

theorem keeps_reach (s : State) (d : Nat) : Keeps s (reach s d) := ⟨id, id, id, id, rfl⟩

/-! ### The power state -/

/-- R188: the idle deadline changes in RUN. -/
theorem keeps_idleDeadline {s : State} {old : Option Nat} (h : s.power = .run old) (new : Option Nat) :
    Keeps s { s with power := .run new } := by
  refine keeps_of_power (fun ok => ?_) rfl
  rw [powerOk_iff] at ok ⊢
  simpa [h] using ok

theorem keeps_leaveIdle (s : State) : Keeps s (leaveIdle s) := by
  unfold leaveIdle
  split
  · next h => exact keeps_idleDeadline h _
  · exact .refl s

theorem keeps_idleTest (s : State) : Keeps s (idleTest s) := by
  unfold idleTest
  split
  · next h => exact .ite (fun _ => keeps_idleDeadline h _) fun _ => .refl s
  · next h => exact .ite (fun _ => .refl s) fun _ => keeps_idleDeadline h _
  · exact .refl s

theorem keeps_replaceIdleDeadline (s : State) (before : Nat) : Keeps s (replaceIdleDeadline s before) := by
  unfold replaceIdleDeadline
  split
  · next h => exact .ite (fun _ => keeps_idleDeadline h _) fun _ => .refl s
  · exact .refl s

/-- R191: REST is left with the drive SETTLING. -/
theorem keeps_takeWakeCause (s : State) (c : WakeCause) : Keeps s (takeWakeCause s c) := by
  unfold takeWakeCause
  split
  · next h =>
    refine keeps_of_power (fun ok => ?_) ?_
    · rw [powerOk_iff, h] at ok
      simp [powerOk_iff, driveWake, ok]
    · simp only [driveWake]; split <;> rfl
  · next h =>
    refine keeps_of_power (fun ok => ?_) rfl
    rw [powerOk_iff] at ok ⊢
    simpa [h] using ok
  · exact .refl s
  · next h => exact .ite (fun _ => keeps_idleDeadline h _) fun _ => .refl s

/-- R190: REST is entered with the drive OFF. -/
theorem keeps_enterRest (s : State) : Keeps s (enterRest s) :=
  ⟨id, id, fun _ => (powerOk_iff _).mpr rfl, id, rfl⟩

/-! ### The track -/

/-- R70: the grant's track and the track record come and go together. -/
theorem keeps_grantTrack {s : State} {g : GrantTrack} {t : Option Track} (h : g = .absent ↔ t = none) :
    Keeps s { s with grant := { s.grant with track := g }, track := t } :=
  ⟨id, fun ok => ⟨ok.1, h⟩, id, id, rfl⟩

theorem keeps_grant {s : State} {g : GrantTrack} (h : g = .absent ↔ s.track = none) :
    Keeps s { s with grant := { s.grant with track := g } } :=
  ⟨id, fun ok => ⟨ok.1, h⟩, id, id, rfl⟩

/-- A track that runs changes its record. -/
theorem keeps_setTrack {s : State} (runs : s.track ≠ none) (t : Track) : Keeps s { s with track := some t } := by
  refine carries_of_work (fun ok => ok.congr rfl rfl rfl ?_) rfl
  simp [runs]

theorem keeps_mapTrack (s : State) (f : Track → Track) : Keeps s { s with track := s.track.map f } :=
  carries_of_work (fun ok => ok.congr rfl rfl rfl (by simp)) rfl

theorem keeps_releaseTrack (s : State) : Keeps s (releaseTrack s) :=
  ((keeps_stopTrackMove s).trans (keeps_abandonRequest ..)).trans (keeps_grantTrack (by simp))

theorem keeps_endTrack (s : State) (cause : Option Status) : Keeps s (endTrack s cause) := by
  unfold endTrack
  split
  · exact .refl s
  · split
    · exact keeps_releaseTrack s
    · exact (keeps_releaseTrack s).trans (keeps_postReply ..)

theorem keeps_endHoldingTrack (s : State) (cause : Status) : Keeps s (endHoldingTrack s cause) :=
  .ite (fun _ => keeps_endTrack ..) fun _ => .refl s

theorem keeps_holdTest (s : State) : Keeps s (holdTest s) :=
  .ite (fun _ => keeps_endHoldingTrack ..) fun _ => .refl s

theorem keeps_trackAcquire {s : State} (runs : s.track ≠ none) (t : Track) : Keeps s (trackAcquire s t) := by
  unfold trackAcquire
  split
  · exact keeps_endTrack ..
  · split
    · exact keeps_endTrack ..
    · exact (keeps_setTrack runs _).trans (keeps_commandMove ..)

theorem keeps_takeAxes (s : State) : Keeps s (takeAxes s) := by
  unfold takeAxes
  split
  · next h => exact keeps_grant (by simp [h])
  · exact (keeps_grantTrack (by simp)).trans (keeps_trackAcquire (by simp) _)

theorem keeps_trackSeek {s : State} (runs : s.track ≠ none) (t : Track) (centre : Pointing) (zenith : Int)
    (c : Cursor) :
    Keeps s (trackSeek s t centre zenith c) := by
  unfold trackSeek
  split
  · exact (keeps_setTrack runs _).trans (keeps_commandMove ..)
  · exact keeps_endTrack ..

theorem keeps_trackRings {s : State} (runs : s.track ≠ none) (t : Track) : Keeps s (trackRings s t) := by
  unfold trackRings
  split
  · exact keeps_trackSeek runs ..
  · exact .refl s

theorem keeps_trackFromCursor {s : State} (runs : s.track ≠ none) (t : Track) : Keeps s (trackFromCursor s t) := by
  unfold trackFromCursor
  split
  · exact keeps_trackSeek runs ..
  · exact .refl s

theorem keeps_trackAdvance {s : State} (runs : s.track ≠ none) (t : Track) : Keeps s (trackAdvance s t) := by
  unfold trackAdvance
  split
  · split
    · exact keeps_trackSeek runs ..
    · exact keeps_endTrack ..
  · exact .refl s

theorem keeps_trackSearch {s : State} (runs : s.track ≠ none) (t : Track) : Keeps s (trackSearch s t) :=
  (keeps_setTrack runs _).trans (keeps_trackRings (by simp) _)

theorem keeps_trackFollow {s : State} (runs : s.track ≠ none) (t : Track) (g : Sighting) :
    Keeps s (trackFollow s t g) := by
  unfold trackFollow
  split
  · exact keeps_endTrack ..
  · exact (keeps_setTrack runs _).trans (keeps_commandMove ..)

theorem keeps_trackJudge {s : State} (runs : s.track ≠ none) (t : Track) (sel : Selection) {u : State} (h : Keeps s u) :
    Keeps s (trackJudge s t sel u) := by
  unfold trackJudge
  split
  · exact keeps_trackFollow runs ..
  · exact h

theorem keeps_trackFrame {s : State} (runs : s.track ≠ none) (t : Track) (sel : Selection) :
    Keeps s (trackFrame s t sel) := by
  unfold trackFrame
  split
  · split
    · exact keeps_trackJudge runs t sel ((keeps_setTrack runs _).trans (keeps_trackRings (by simp) _))
    · exact .ite (fun _ => .refl s) fun _ => keeps_trackJudge runs t sel (keeps_trackAdvance runs t)
    · exact .refl s
    · exact .refl s
  · exact keeps_trackJudge runs t sel (keeps_setTrack runs _)
  · exact keeps_trackJudge runs t sel (.refl s)
  · refine .ite (fun _ => .refl s) fun _ => .ite (fun _ => ?_) fun _ => ?_
    · exact keeps_trackJudge runs t sel ((keeps_setTrack runs _).trans (keeps_trackFromCursor (by simp) _))
    · exact keeps_trackJudge runs t sel (keeps_trackAdvance runs t)
  · exact .refl s

theorem track_ne_none_of_holding {s : State} (ok : TrackOk s) {b : Bool} (h : s.grant.track = .holding b) :
    s.track ≠ none := fun none => by rw [ok.mpr none] at h; cases h

/-- R73: a track that holds the axes is set aside. -/
theorem keeps_suspendTrack {s : State} {b : Bool} (holds : s.grant.track = .holding b) : Keeps s (suspendTrack s) := by
  refine ((keeps_stopTrackMove s).trans (keeps_abandonRequest _ .track)).trans ?_
  refine carries_of_work (fun ok => ⟨ok.1, ?_⟩) rfl
  have runs := track_ne_none_of_holding ok.2 (b := b) (by simpa using holds)
  simpa [TrackOk, suspendTrack] using runs

/-- R74: a track set aside takes the axes again. -/
theorem keeps_resumeTrack (s : State) : Keeps s (resumeTrack s) := by
  simp only [resumeTrack]
  split
  · next h => exact keeps_grant (by simp [h])
  · next h =>
    have held : Keeps s { s with grant := { s.grant with track := .holding false } } := keeps_grant (by simp [h])
    split
    · exact held.trans (keeps_trackAcquire (by simp [h]) _)
    · exact (held.trans (keeps_setTrack (by simp [h]) _)).trans (keeps_commandMove ..)

theorem keeps_tickTrack {s : State} (runs : s.track ≠ none) (t : Track) (c : Clock) : Keeps s (tickTrack s t c) := by
  unfold tickTrack
  split
  · refine Carries.trans (B := WorkOk) (t := formFix s t _) ?_
      (.ite (fun _ => keeps_sendDistanceRequest ..) fun _ => .refl _)
    refine ((keeps_setTrack runs _).trans (keeps_observeEntry ?_)).trans (keeps_modPort ?_)
    · exact fun _ => ⟨rfl, rfl, rfl⟩
    · intro ok; rw [writeFix, portOk_pulseAt]; exact ok
  · exact .refl s

/-! ### The queue -/

/-- R64: an aim enters QUEUED in a slot that holds no ACTIVE aim. -/
theorem keeps_enterQueued {s : State} {i : SlotNo} (old : NotActive (slotAt s i)) (a : Aim) :
    Keeps s (enterQueued s i a) := by
  have counted : Keeps (putSlot s i (some { a with state := .queued, sequence := s.sequence }))
      { putSlot s i (some { a with state := .queued, sequence := s.sequence }) with sequence := s.sequence + 1#32 } :=
    ⟨id, id, id, id, rfl⟩
  exact ((((keeps_putSlot old (by simp)).trans counted).trans (keeps_takeWakeCause ..)).trans (keeps_leaveIdle _)).trans
    (keeps_holdTest _)

theorem freeSlot?_eq_some {s : State} {i : SlotNo} (h : freeSlot? s = some i) : slotAt s i = none := by
  simpa using List.find?_some h

theorem keeps_placeAim (s : State) (a : Aim) : Keeps s (placeAim s a) := by
  unfold placeAim
  split
  · next free => exact keeps_enterQueued (by simp [freeSlot?_eq_some free]) a
  · exact .refl s

/-- R80: slots without an ACTIVE aim are freed. -/
theorem keeps_freeSlots {s : State} {test : Aim → Bool}
    (h : ∀ i a, slotAt s i = some a → test a = true → a.state ≠ .active) : Keeps s (freeSlots s test) := by
  obtain ⟨waiting, slots, writes⟩ := freeSlots_writes s test
  refine carries_of_work (fun ⟨⟨named, inFlight⟩, track⟩ => ⟨⟨fun j => ?_, ?_⟩, ?_⟩) (by rw [writes])
  · have grant : (freeSlots s test).grant = s.grant := by rw [writes]
    rw [grant, ← named j, slotAt_freeSlots]
    split
    · next hit =>
      obtain ⟨a, ha, hit⟩ := (Option.any_eq_true _ _).mp hit
      simp [ha, h j a ha hit]
    · rfl
  · rw [writes]; exact inFlight
  · rw [writes]; simpa [TrackOk] using track

/-! ### The rounds -/

theorem keeps_putRound (s : State) (n : RoundNo) (r : Round) : Keeps s (putRound s n r) := ⟨id, id, id, id, rfl⟩

theorem keeps_passBoundary (s : State) (n : RoundNo) : Keeps s (passBoundary s n) := ⟨id, id, id, id, rfl⟩

theorem keeps_countFinal (s : State) (n : RoundNo) (st : Status) : Keeps s (countFinal s n st) :=
  .ite (fun _ => keeps_putRound ..) fun _ => keeps_putRound ..

theorem keeps_feedStep (s : State) (n : RoundNo) : Keeps s (feedStep s n) := by
  simp only [feedStep]
  split
  · exact keeps_putRound ..
  · split
    · exact keeps_putRound ..
    · exact (keeps_putRound ..).trans (keeps_placeAim ..)

theorem keeps_feedRound (fuel : Nat) (s : State) (n : RoundNo) : Keeps s (feedRound fuel s n) := by
  induction fuel generalizing s with
  | zero => rw [feedRound]; exact .refl s
  | succ k ih => rw [feedRound]; exact .ite (fun _ => (keeps_feedStep s n).trans (ih _)) fun _ => .refl s

theorem keeps_postSummary (s : State) (n : RoundNo) (r : Round) : Keeps s (postSummary s n r) :=
  (keeps_modPort (p := r.reportPort) (by exact id)).trans (keeps_postReply ..)

theorem keeps_endRun (s : State) (n : RoundNo) : Keeps s (endRun s n) :=
  ((keeps_putRound ..).trans (keeps_notify ..)).trans (keeps_postSummary ..)

theorem keeps_serveRound (s : State) (n : RoundNo) : Keeps s (serveRound s n) := by
  rw [serveRound]
  exact .ite (fun _ => (keeps_feedRound ..).trans (keeps_endRun ..)) fun _ => keeps_feedRound ..

theorem keeps_startRun (s : State) (n : RoundNo) (c : Clock) : Keeps s (startRun s n c) :=
  (((keeps_putRound ..).trans (keeps_notify ..)).trans (keeps_takeWakeCause ..)).trans (keeps_leaveIdle _)

theorem keeps_stopRun (s : State) (n : RoundNo) : Keeps s (stopRun s n) := by
  refine (keeps_putRound ..).trans (keeps_freeSlots fun _ a _ h active => ?_)
  simp [removable, active] at h

end Sys2Proof.Machine
end

section
/-! PROOFS. The station, the endings of an aim and of an attempt, the arbiter, what follows from an event, and the
acquisition controller keep the conditions of Safety.lean (chapters 4, 6 and 8). -/

namespace Sys2Proof.Machine

/-! ### The station -/

/-- R152: ω stays, or takes a value of the circle. -/
theorem keeps_station {s : State} {st : Station}
    (h : st.omega = s.station.omega ∨ (0 ≤ st.omega ∧ st.omega < 4000000)) :
    Keeps s { s with station := st } := by
  refine ⟨id, id, id, fun ⟨ports, clock, settings, encoder, omega⟩ => ⟨ports, clock, settings, encoder, ?_⟩, rfl⟩
  rcases h with same | range
  · show 0 ≤ st.omega ∧ st.omega < 4000000
    rw [same]; exact omega
  · exact range

theorem reduce_range (x : Int) : 0 ≤ reduce x ∧ reduce x < 4000000 := by unfold reduce; omega

theorem keeps_takeTilt (s : State) (sample : TiltSample) : Keeps s (takeTilt s sample) := by
  have levelled : Keeps s (levelNotice { s with station := { s.station with latest := some sample } }
      s.station.latest sample) :=
    (keeps_station (.inl (by rfl))).trans (.ite (fun _ => keeps_notifyAll ..) fun _ => .refl _)
  exact levelled.trans (.ite (fun _ => (keeps_station (.inl (by rfl))).trans (keeps_notifyAll ..)) fun _ => .refl _)

theorem keeps_applyCheck (s : State) (c : Check) (result : Status) : Keeps s (applyCheck s c result) := by
  simp only [applyCheck]
  split
  · exact (keeps_station (.inl (by rfl))).trans (keeps_notifyAll ..)
  · exact (keeps_station (.inr (reduce_range _))).trans (keeps_notifyAll ..)
  · exact .ite (fun _ => (keeps_station (.inl (by rfl))).trans (keeps_notifyAll ..)) fun _ =>
      keeps_station (.inl (by rfl))
  · exact keeps_station (.inl (by rfl))

theorem keeps_checkAimCompletes (s : State) (id : Nat) (st : Status) (observed : Option Int) :
    Keeps s (checkAimCompletes s id st observed) := by
  unfold checkAimCompletes
  split
  · exact .refl s
  · exact .ite (fun _ => (keeps_station (.inl (by rfl))).trans ((keeps_applyCheck ..).trans (keeps_postReply ..)))
      fun _ => keeps_station (.inl (by rfl))

/-! ### Completion -/

/-- What keeps the conditions and writes nothing of the work in hand keeps an ended aim as it is. -/
theorem Carries.ended {s t : State} (h : Keeps s t) (i : SlotNo) (slots : t.slots = s.slots) (grant : t.grant = s.grant)
    (attempt : t.attempt = s.attempt) (track : t.track = s.track) : Carries (Ended i) (Ended i) s t :=
  ⟨h.table, fun ended => ended.congr slots grant attempt (by rw [track]), h.power, h.bounds, h.queue⟩

theorem carries_deliver (s : State) (i : SlotNo) (a : Aim) (st : Status) :
    Carries (Ended i) WorkOk s (deliver s i a st) := by
  refine .ite (fun room => ?_) fun _ => ?_
  · exact ((keeps_appendReply _ (room_of_hasRoom room)).ended i (by simp) (by simp) (by simp) (by simp)).trans
      (carries_putSlot_ended notActive_none)
  · exact (carries_putSlot_ended (by simp)).trans (keeps_hold ..)

/-- R78: an aim that has lost the axes completes. -/
theorem carries_complete (s : State) (i : SlotNo) (a : Aim) (st : Status) :
    Carries (Ended i) WorkOk s (complete s i a st) := by
  unfold complete
  split
  · exact carries_deliver ..
  · exact ((keeps_countFinal ..).ended i (by simp) (by simp) (by simp) (by simp)).trans (carries_deliver ..)
  · exact ((keeps_checkAimCompletes ..).ended i (by simp) (by simp) (by simp) (by simp)).trans
      (carries_putSlot_ended notActive_none)

/-- R76: the course of an aim after its attempt. -/
theorem carries_decideCourse (s : State) (i : SlotNo) (a : Aim) (st : Status) :
    Carries (Ended i) WorkOk (releaseAim s) (decideCourse s i a st) := by
  simp only [decideCourse]
  refine .ite (fun _ => ?_) fun _ => carries_complete ..
  split
  · exact ((keeps_putRound ..).ended i rfl rfl rfl rfl).trans (carries_putSlot_ended notActive_none)
  · exact carries_putSlot_ended (by simp)

/-- R125: with its attempt record gone and the grant released, the aim of the attempt has ended. -/
theorem carries_endRecord {s : State} {t : Attempt} (h : s.attempt = some t) :
    Carries WorkOk (Ended t.slot) s (releaseAim { s with attempt := none }) := by
  refine carries_of_work (fun ⟨⟨named, inFlight⟩, track⟩ => ⟨fun j hj => ?_, rfl, rfl, track⟩) rfl
  have active : s.grant.active = some t.slot := by rw [← inFlight, h]; rfl
  have := mt (named j).mp (by rw [active]; exact fun e => hj (Option.some.inj e).symm)
  exact Bool.eq_false_iff.mpr this

theorem applyObservation_fields (o : Observation) (e : Entry) : (applyObservation o e).id = e.id
    ∧ (applyObservation o e).pinned = e.pinned ∧ (applyObservation o e).rounds = e.rounds := by
  simp only [applyObservation]; split <;> exact ⟨rfl, rfl, rfl⟩

theorem keeps_handObservation (s : State) (target : AimTarget) (o : Observation) :
    Keeps s (handObservation s target o) := by
  unfold handObservation
  split
  · exact keeps_observeEntry (applyObservation_fields o)
  · exact .refl s

/-- R125: the ending of an attempt. -/
theorem keeps_endAttempt (s : State) (st : Status) (d : Option Nat) : Keeps s (endAttempt s st d) := by
  unfold endAttempt
  split
  · exact .refl s
  · next t attempt =>
    split
    · next free =>
      refine ⟨id, fun ok => ?_, id, id, rfl⟩
      have active : s.grant.active = some t.slot := by rw [← ok.1.2, attempt]; rfl
      have := (ok.1.1 t.slot).mpr active
      simp [free] at this
    · refine .ite (fun _ => ?_) fun _ => (carries_endRecord attempt).trans (carries_decideCourse ..)
      exact (keeps_handObservation ..).trans
        ((carries_endRecord (by rw [← attempt]; simp)).trans (carries_decideCourse ..))

/-- R127: an ACTIVE aim whose attempt is abandoned has lost the axes. -/
theorem carries_abandonAttempt {s : State} {i : SlotNo} {a : Aim} (held : slotAt s i = some a)
    (active : a.state = .active) :
    Carries WorkOk (Ended i) s (abandonAttempt s) := by
  refine Carries.trans ((keeps_stopDrive s).trans (keeps_abandonRequest _ .acquisition)) ?_
  refine carries_of_work (fun ⟨⟨named, _⟩, track⟩ => ⟨fun j hj => ?_, rfl, rfl, track⟩) rfl
  have named : ∀ j, (slotAt s j).any (fun a => a.state = .active) = true ↔ s.grant.active = some j := by
    simpa [slotAt] using named
  have here : s.grant.active = some i := (named i).mp (by simp [held, active])
  have : ¬ (slotAt s j).any (fun a => a.state = .active) = true := by
    rw [named, here]; exact fun e => hj (Option.some.inj e).symm
  simpa [slotAt, abandonAttempt] using Bool.eq_false_iff.mpr this

/-- R86: the slot of the aim that has lost the axes is freed among others. -/
theorem carries_freeSlots_ended {s : State} {i : SlotNo} {test : Aim → Bool} (hit : (slotAt s i).any test = true) :
    Carries (Ended i) WorkOk s (freeSlots s test) := by
  obtain ⟨waiting, slots, writes⟩ := freeSlots_writes s test
  refine carries_of_work (fun ⟨others, active, attempt, track⟩ => ⟨⟨fun j => ?_, ?_⟩, ?_⟩) (by rw [writes])
  · have : (freeSlots s test).grant.active = none := by rw [writes]; exact active
    rw [this, slotAt_freeSlots]
    by_cases e : j = i
    · subst e; simp [hit]
    · split
      · simp
      · simp [others j e]
  · rw [writes]; simp [attempt, active]
  · rw [writes]; simpa [TrackOk] using track

/-! ### Dispatch and what follows from an event -/

/-- R70: the aim in slot `i` is ACTIVE and named by the grant, and its attempt has not begun. -/
def Chosen (i : SlotNo) (s : State) : Prop :=
  (∀ j, (slotAt s j).any (fun a => a.state = .active) = true ↔ j = i) ∧ s.grant.active = some i ∧ s.attempt = none
    ∧ TrackOk s

theorem carries_choose {s : State} {i : SlotNo} {b : Aim} (none : s.grant.active = none) (active : b.state = .active) :
    Carries WorkOk (Chosen i) s (putSlot { s with grant := { s.grant with active := some i } } i (some b)) := by
  refine carries_of_work (fun ⟨⟨named, inFlight⟩, track⟩ =>
      ⟨fun j => ?_, rfl, ?_, (trackOk_putSlot _ i _).mpr track⟩) rfl
  · by_cases e : j = i
    · subst e; rw [slotAt_putSlot_same]; simp [active]
    · rw [slotAt_putSlot_other _ _ e]
      refine (named j).trans ?_
      simp [none, e]
  · show s.attempt = Option.none
    rw [none] at inFlight
    exact Option.map_eq_none_iff.mp inFlight

theorem carries_touchTarget (s : State) (i : SlotNo) (target : AimTarget) :
    Carries (Chosen i) (Chosen i) s (touchTarget s target) := by
  unfold touchTarget
  split
  · refine ⟨(keeps_touchEntry ..).table, fun chosen => ?_, (keeps_touchEntry ..).power, (keeps_touchEntry ..).bounds,
      (keeps_touchEntry ..).queue⟩
    simpa [Chosen, TrackOk, slotAt] using chosen
  · exact .refl s

/-- R72: the chosen aim completes at once, or its attempt begins. -/
theorem carries_releaseAim_chosen (s : State) (i : SlotNo) : Carries (Chosen i) (Ended i) s (releaseAim s) := by
  refine carries_of_work (fun ⟨named, _, attempt, track⟩ => ⟨fun j hj => ?_, rfl, attempt, track⟩) rfl
  exact Bool.eq_false_iff.mpr (mt (named j).mp hj)

theorem carries_beginAttempt (s : State) (i : SlotNo) (sol : Solution) :
    Carries (Chosen i) WorkOk s (beginAttempt s i sol) := by
  refine Carries.trans ?_ (keeps_commandMove ..)
  refine carries_of_work (fun ⟨named, active, _, track⟩ => ⟨⟨fun j => (named j).trans ?_, active.symm⟩, track⟩) rfl
  show _ ↔ s.grant.active = some j
  rw [active, Option.some.injEq]; exact eq_comm

theorem keeps_dispatch {s : State} (none : s.grant.active = none) (i : SlotNo) (a : Aim) :
    Keeps s (dispatch s i a) := by
  have chosen : Carries WorkOk (Chosen i) s _ :=
    carries_choose (b := { a with state := .active, attempts := a.attempts + 1 }) none rfl
  refine (chosen.trans (carries_touchTarget _ i a.target)).trans
      (.ite (fun _ => (carries_releaseAim_chosen ..).trans (carries_complete ..)) fun _ => ?_)
  split
  · exact (carries_releaseAim_chosen ..).trans (carries_complete ..)
  · exact carries_beginAttempt ..

theorem keeps_arbitrate {s t : State} (h : arbitrate s = some t) : Keeps s t := by
  obtain ⟨free, ⟨holds, rfl⟩ | ⟨-, rfl⟩ | ⟨-, -, -, rfl⟩ | ⟨i, a, -, -, -, rfl⟩⟩ := arbitrate_cases h
  · exact keeps_suspendTrack holds
  · exact keeps_resumeTrack s
  · exact keeps_takeAxes s
  · exact keeps_dispatch free i a

theorem keeps_afterEvent (s : State) : Keeps s (afterEvent s) :=
  afterEvent_induct (Keeps s) (fun _ _ h => h.trans (keeps_serveRound ..))
    (fun _ _ h act => h.trans (keeps_arbitrate act)) (fun _ h => h.trans (keeps_idleTest _)) (.refl s)

/-- R96: the drive goes from RUN's other states into FAULT. -/
theorem keeps_enterFault {s : State} (run : s.drive.inRun = true) (cause : FaultCause) : Keeps s (enterFault s cause) :=
  (((((keeps_drive run rfl).trans (keeps_notifyAll ..)).trans (keeps_abandonRequest ..)).trans
    (keeps_endAttempt ..)).trans (keeps_endHoldingTrack ..)).trans (keeps_afterEvent _)

/-! ### The acquisition controller -/

/-- The attempt in flight has the slot of the record `t`. -/
def InFlight (s : State) (t : Attempt) : Prop := s.attempt.map (·.slot) = some t.slot

theorem keeps_setAttempt {s : State} {t : Attempt} (h : InFlight s t) : Keeps s (setAttempt s t) :=
  carries_of_work (fun ok => ⟨⟨ok.1.1, h.symm.trans ok.1.2⟩, ok.2⟩) rfl

theorem keeps_finishAttempt {s : State} {t : Attempt} (h : InFlight s t) (st : Status) :
    Keeps s (finishAttempt s t st) :=
  (keeps_setAttempt h).trans (keeps_endAttempt ..)

theorem keeps_attemptSeek {s : State} {t : Attempt} (h : InFlight s t) (c : Cursor) : Keeps s (attemptSeek s t c) := by
  unfold attemptSeek
  split
  · exact (keeps_setAttempt (by exact h)).trans (keeps_commandMove ..)
  · exact keeps_finishAttempt (by exact h) _

theorem keeps_advanceSearch {s : State} {t : Attempt} (h : InFlight s t) : Keeps s (advanceSearch s t) := by
  unfold advanceSearch
  split
  · exact keeps_attemptSeek h _
  · exact keeps_finishAttempt (by exact h) _

theorem keeps_sendWaiting (s : State) : Keeps s (sendWaiting s) :=
  .ite (fun _ => keeps_sendDistanceRequest ..) fun _ => .refl s

theorem keeps_lockPrism {s : State} {t : Attempt} (h : InFlight s t) (g : Sighting) : Keeps s (lockPrism s t g) := by
  unfold lockPrism
  split
  · exact keeps_finishAttempt h _
  · exact .ite (fun _ => (keeps_setAttempt (by exact h)).trans (keeps_sendWaiting _)) fun _ =>
      keeps_finishAttempt (by exact h) _

theorem keeps_correct {s : State} {t : Attempt} (h : InFlight s t) (g : Sighting) : Keeps s (correct s t g) := by
  refine .ite (fun _ => keeps_finishAttempt h _) fun _ => ?_
  split
  · exact keeps_finishAttempt h _
  · exact (keeps_setAttempt (by exact h)).trans (keeps_commandMove ..)

theorem keeps_testSighting {s : State} {t : Attempt} (h : InFlight s t) (g : Sighting) : Keeps s (testSighting s t g) :=
  .ite (fun _ => keeps_lockPrism (by exact h) _) fun _ => keeps_correct (by exact h) _

theorem keeps_judgeFrame {s : State} {t : Attempt} (h : InFlight s t) (sel : Selection) :
    Keeps s (judgeFrame s t sel) := by
  unfold judgeFrame
  split
  · exact keeps_finishAttempt (by exact h) _
  · exact .ite (fun _ => keeps_testSighting (by exact h) _) fun _ => keeps_testSighting (by exact h) _
  · split
    · exact keeps_attemptSeek (by exact h) _
    · exact keeps_advanceSearch h
    · exact .ite (fun _ => keeps_finishAttempt (by exact h) _) fun _ => keeps_setAttempt (by exact h)
    · exact .refl s
    · exact .refl s

/-- The attempt in flight changes its record and keeps its slot. -/
theorem keeps_mapAttempt {s : State} {f : Attempt → Attempt} (h : ∀ t, (f t).slot = t.slot) :
    Keeps s { s with attempt := s.attempt.map f } := by
  refine carries_of_work (fun ok => ⟨⟨ok.1.1, ?_⟩, ok.2⟩) rfl
  rw [← ok.1.2]
  simp [Function.comp_def, h]

theorem keeps_attemptArrival (s : State) : Keeps s (attemptArrival s) := keeps_mapAttempt fun t => by split <;> rfl

theorem keeps_trackArrival (s : State) : Keeps s (trackArrival s) := keeps_mapTrack ..

theorem keeps_attemptTilt (s : State) (sample : TiltSample) : Keeps s (attemptTilt s sample) :=
  .ite (fun _ => (keeps_stopDrive s).trans (keeps_endAttempt ..)) fun _ => .refl s

theorem keeps_takeAnswer (s : State) (d : DistanceRequest) (a : DistanceAnswer) : Keeps s (takeAnswer s d a) := by
  have freed : Keeps s { s with distance := none } := ⟨id, id, id, id, rfl⟩
  refine (freed.trans (.ite (fun _ => .refl _) fun _ => ?_)).trans ((keeps_sendWaiting _).trans (keeps_afterEvent _))
  split
  · exact .ite (fun _ => keeps_endAttempt ..) fun _ => .refl _
  · unfold trackAnswer
    split
    · exact .ite (fun _ => keeps_mapTrack ..) fun _ => .refl _
    · exact .refl _
    · exact .refl _

theorem keeps_takeExpiry (s : State) (d : DistanceRequest) : Keeps s (takeExpiry s d) := by
  have freed : Keeps s { reach s d.expiry with distance := none } := ⟨id, id, id, id, rfl⟩
  refine (freed.trans (.ite (fun _ => .refl _) fun _ => ?_)).trans ((keeps_sendWaiting _).trans (keeps_afterEvent _))
  split
  · exact .ite (fun _ => keeps_endAttempt ..) fun _ => .refl _
  · exact .refl _

end Sys2Proof.Machine
end

section
/-! PROOFS. The clock and the settings stay in their ranges (section 9.1, R168 to R171, R206). -/

namespace Sys2Proof.Machine

/-! ### The clock -/

theorem clock_ok_iff (c : Clock) : c.ok = true ↔ c.year ≤ 99 ∧ 1 ≤ c.month ∧ c.month ≤ 12 ∧ 1 ≤ c.day
    ∧ c.day ≤ monthLength c.year c.month ∧ c.weekday ≤ 6 ∧ c.hour ≤ 23 ∧ c.minute ≤ 59 ∧ c.second ≤ 59
    ∧ c.sub ≤ 1023 := by
  simp [Clock.ok, and_assoc]

theorem le_monthLength (year month : Nat) : 28 ≤ monthLength year month := by
  unfold monthLength; (repeat' split) <;> omega

theorem carryYear_ok {c : Clock} (h : c.ok = true) (day : c.day = 1) : (carryYear c).ok = true := by
  rw [clock_ok_iff] at h
  unfold carryYear
  split
  · have := le_monthLength (c.year + 1) c.month
    rw [clock_ok_iff]; dsimp only; omega
  · have := le_monthLength 0 c.month
    rw [clock_ok_iff]; dsimp only; omega

theorem carryMonth_ok {c : Clock} (h : c.ok = true) (day : c.day = 1) : (carryMonth c).ok = true := by
  unfold carryMonth
  split
  · have := le_monthLength c.year (c.month + 1)
    rw [clock_ok_iff] at h ⊢; dsimp only; omega
  · refine carryYear_ok ?_ day
    have := le_monthLength c.year 1
    rw [clock_ok_iff] at h ⊢; dsimp only; omega

theorem carryDay_ok {c : Clock} (h : c.ok = true) : (carryDay c).ok = true := by
  unfold carryDay
  split
  · rw [clock_ok_iff] at h ⊢; dsimp only; omega
  · refine carryMonth_ok ?_ rfl
    have := le_monthLength c.year c.month
    rw [clock_ok_iff] at h ⊢; dsimp only; omega

theorem carryHour_ok {c : Clock} (h : c.ok = true) : (carryHour c).ok = true := by
  unfold carryHour
  split
  · rw [clock_ok_iff] at h ⊢; dsimp only; omega
  · refine carryDay_ok ?_
    rw [clock_ok_iff] at h ⊢; dsimp only; split <;> omega

theorem carryMinute_ok {c : Clock} (h : c.ok = true) : (carryMinute c).ok = true := by
  unfold carryMinute
  split
  · rw [clock_ok_iff] at h ⊢; dsimp only; omega
  · refine carryHour_ok ?_
    rw [clock_ok_iff] at h ⊢; dsimp only; omega

theorem carrySecond_ok {c : Clock} (h : c.ok = true) : (carrySecond c).ok = true := by
  unfold carrySecond
  split
  · rw [clock_ok_iff] at h ⊢; dsimp only; omega
  · refine carryMinute_ok ?_
    rw [clock_ok_iff] at h ⊢; dsimp only; omega

theorem countClock_ok {c : Clock} (h : c.ok = true) : (countClock c).ok = true := by
  unfold countClock
  split
  · rw [clock_ok_iff] at h ⊢; dsimp only; omega
  · refine carrySecond_ok ?_
    rw [clock_ok_iff] at h ⊢; dsimp only; omega

theorem alignClock_ok {c : Clock} (h : c.ok = true) : (alignClock c).ok = true := by
  unfold alignClock
  split
  · rw [clock_ok_iff] at h ⊢; dsimp only; omega
  · refine carryMinute_ok ?_
    rw [clock_ok_iff] at h ⊢; dsimp only; omega

theorem rangeOf_eq_some_iff (low high n m : Nat) : rangeOf low high n = some m ↔ n = m ∧ low ≤ n ∧ n ≤ high := by
  unfold rangeOf; split
  · next h => simp [h]
  · next h => simp [h]

/-- R170: the clock that a body of SET_TIME names, where its fields lie in their ranges. -/
theorem timeOf_eq_some_iff (b : List Byte) (c : Clock) : timeOf b = some c ↔ c.ok = true ∧ c =
    { year := byteAt b 0, month := byteAt b 1, day := byteAt b 2, weekday := byteAt b 3, hour := byteAt b 4,
      minute := byteAt b 5, second := byteAt b 6, sub := 0, valid := true } := by
  simp only [timeOf, bind, Option.bind_eq_some_iff, rangeOf_eq_some_iff, Option.some.injEq]
  constructor
  · rintro ⟨_, ⟨rfl, h0, h1⟩, _, ⟨rfl, h2, h3⟩, _, ⟨rfl, h4, h5⟩, _, ⟨rfl, h6, h7⟩, _, ⟨rfl, h8, h9⟩, _,
      ⟨rfl, h10, h11⟩, _, ⟨rfl, h12, h13⟩, rfl⟩
    refine ⟨?_, rfl⟩
    rw [clock_ok_iff]; dsimp only; omega
  · rintro ⟨ok, rfl⟩
    rw [clock_ok_iff] at ok
    dsimp only at ok
    exact ⟨_, ⟨rfl, by omega⟩, _, ⟨rfl, by omega⟩, _, ⟨rfl, by omega⟩, _, ⟨rfl, by omega⟩, _, ⟨rfl, by omega⟩, _,
      ⟨rfl, by omega⟩, _, ⟨rfl, by omega⟩, rfl⟩

/-! ### The settings -/

/-- R206: a parameter stays in its range. -/
theorem settingOf_range {b : List Byte} {k low high held : Nat} (order : low ≤ high) (h : low ≤ held ∧ held ≤ high) :
    low ≤ settingOf b k low high held ∧ settingOf b k low high held ≤ high := by
  unfold settingOf; split <;> omega

theorem idleRestOf_range {b : List Byte} {k held : Nat} (h : held = 0 ∨ (10 ≤ held ∧ held ≤ 3600)) :
    idleRestOf b k held = 0 ∨ (10 ≤ idleRestOf b k held ∧ idleRestOf b k held ≤ 3600) := by
  unfold idleRestOf settingOf; (repeat' split) <;> omega

theorem settings_ok_iff (c : Settings) : c.ok = true ↔ (500 ≤ c.retryDelay ∧ c.retryDelay ≤ 10000)
    ∧ (100 ≤ c.settleDelay ∧ c.settleDelay ≤ 2000) ∧ (c.idleRest = 0 ∨ (10 ≤ c.idleRest ∧ c.idleRest ≤ 3600))
    ∧ (10 ≤ c.holdLimit ∧ c.holdLimit ≤ 3600) ∧ (5 ≤ c.tiltGuard ∧ c.tiltGuard ≤ 200)
    ∧ (1 ≤ c.lockTolerance ∧ c.lockTolerance ≤ 50) ∧ (1 ≤ c.minStrength ∧ c.minStrength ≤ 255)
    ∧ (100 ≤ c.separationGuard ∧ c.separationGuard ≤ 2000) ∧ (500 ≤ c.coastTime ∧ c.coastTime ≤ 10000)
    ∧ c.adoptLimit ≤ 200 := by
  simp [Settings.ok, and_assoc]

theorem settingsOf_ok (b : List Byte) {c : Settings} (h : c.ok = true) : (settingsOf b c).ok = true := by
  rw [settings_ok_iff] at h ⊢
  obtain ⟨retry, settle, idle, hold, tilt, lock, strength, guard, coast, adopt⟩ := h
  exact ⟨settingOf_range (by decide) retry, settingOf_range (by decide) settle, idleRestOf_range idle,
    settingOf_range (by decide) hold, settingOf_range (by decide) tilt, settingOf_range (by decide) lock,
    settingOf_range (by decide) strength, settingOf_range (by decide) guard, settingOf_range (by decide) coast,
    (settingOf_range (by decide) ⟨Nat.zero_le _, adopt⟩).2⟩

end Sys2Proof.Machine
end

section
/-! PROOFS. Every command keeps the conditions of Safety.lean, and so every step does (O57 to O60); the state after
power-on meets them (O56). -/

namespace Sys2Proof.Machine

/-! ### Requests -/

theorem room_of_accepted {s : State} {f : Frame} {k : RequestKind} (h : transactionStatus s f k = .accepted) :
    Room s f.port := by
  unfold Room
  refine Decidable.byContradiction fun full => ?_
  simp only [transactionStatus, Nat.not_lt.mp full, if_true] at h
  split at h <;> cases h

theorem keeps_answerRequest {s : State} {f : Frame} {k : RequestKind} {act : State → State} (room : Room s f.port)
    (h : Keeps s (act s)) : Keeps s (answerRequest s f k act) :=
  .ite (fun _ => h) fun _ => keeps_refuse _ room

/-- A request keeps the conditions where its own part does from a state with a free place for the record. -/
theorem keeps_request {s t : State} {f : Frame} {k : RequestKind} {act : State → State}
    (answers : request s f k act = .next t) (h : ∀ u, Room u f.port → Keeps u (act u)) : Keeps s t := by
  obtain ⟨-, eq⟩ | ⟨st, -, -, eq⟩ | ⟨-, accepted, eq⟩ :=
      request_cases s f k act <;> rw [eq] at answers <;> cases answers
  · exact .refl s
  · exact keeps_clockOut ..
  · have room : Room (clockOut s f.port (frameOut f .accepted)) f.port :=
      (room_of_accepted accepted).modPort fun _ => rfl
    exact (keeps_clockOut ..).trans (keeps_answerRequest room (h _ room))

theorem keeps_withFields {α : Type} {s : State} {f : Frame} {x : Option α} {act : α → State} (room : Room s f.port)
    (h : ∀ v, x = some v → Keeps s (act v)) : Keeps s (withFields s f x act) := by
  unfold withFields
  split
  · exact h _ rfl
  · exact keeps_refuse _ room

/-! ### Aims, wakes and tracks -/

theorem keeps_requestAim {s : State} {f : Frame} (x : AimFields) (room : Room s f.port) :
    Keeps s (requestAim s f x) := by
  refine .ite (fun _ => keeps_refuse _ room) fun _ => ?_
  split
  · exact keeps_refuse _ room
  · exact .ite (fun _ => (keeps_placeAim ..).trans (keeps_afterEvent _)) fun _ => keeps_refuse _ room

theorem aimNamed_eq_some {s : State} {p : Port} {tag : Byte} {i : SlotNo} {a : Aim}
    (h : aimNamed s p tag = some (i, a)) :
    slotAt s i = some a ∧ ownAim p tag a = true := by
  simp only [aimNamed, Option.bind_eq_some_iff, Option.map_eq_some_iff, Prod.mk.injEq] at h
  obtain ⟨j, found, b, held, rfl, rfl⟩ := h
  exact ⟨held, by simpa [held] using List.find?_some found⟩

theorem keeps_cancelAim {s : State} {f : Frame} (room : Room s f.port) : Keeps s (cancelAim s f) := by
  unfold cancelAim
  split
  · exact keeps_refuse _ room
  · next i a named =>
    have held := (aimNamed_eq_some named).1
    have waiting (h : a.state ≠ .active) : Keeps s (removeCancelled s f i a) := by
      refine ((keeps_appendReply _ room).trans (keeps_putSlot ?_ notActive_none)).trans (keeps_afterEvent _)
      show NotActive (slotAt s i)
      rw [held, notActive_some]; exact h
    split
    · exact keeps_refuse _ room
    · next state => exact waiting (by simp [state])
    · next state => exact waiting (by simp [state])
    · next state =>
      have ports : (abandonAttempt s).ports = s.ports := by simp [abandonAttempt]
      exact (((carries_abandonAttempt held state).trans ((keeps_appendReply _ (room.congr ports)).ended i
        (by simp) (by simp) (by simp) (by simp))).trans (carries_putSlot_ended notActive_none)).trans
            (keeps_afterEvent _)

theorem keeps_wake {s : State} {f : Frame} (room : Room s f.port) : Keeps s (wake s f) :=
  (keeps_takeWakeCause ..).trans (keeps_answer _ (room.congr (by simp)))

theorem keeps_startTrack {s : State} {f : Frame} (x : TrackFields) (room : Room s f.port) :
    Keeps s (startTrack s f x) := by
  unfold startTrack
  split
  · exact keeps_refuse _ room
  · have accepted : Keeps s { s with
        track := some (acceptedTrack s f x), grant := { s.grant with track := .waiting s.sequence },
        sequence := s.sequence + 1#32 } :=
      ⟨id, fun ok => ⟨ok.1, by simp [TrackOk]⟩, id, id, rfl⟩
    exact ((accepted.trans (keeps_takeWakeCause ..)).trans (keeps_leaveIdle _)).trans (keeps_afterEvent _)

theorem keeps_stopTrack {s : State} {f : Frame} (room : Room s f.port) : Keeps s (stopTrack s f) :=
  .ite (fun _ => ((keeps_answer _ room).trans (keeps_endTrack ..)).trans (keeps_afterEvent _)) fun _ =>
      keeps_refuse _ room

/-! ### The station and the clock -/

theorem keeps_setOrientation {s : State} {f : Frame} {omega : Int} (range : 0 ≤ omega ∧ omega < 4000000)
    (room : Room s f.port) : Keeps s (setOrientation s f omega) := by
  refine .ite (fun _ => keeps_refuse _ room) fun _ => ?_
  split
  · exact keeps_refuse _ room
  · exact ((keeps_station (.inr range)).trans (keeps_notifyAll ..)).trans
      (keeps_answer _ ((room.congr (by rfl)).notifyAll _))

theorem angleOf_range {n : Nat} {x : Int} (h : angleOf n = some x) : 0 ≤ x ∧ x < 4000000 := by
  unfold angleOf at h; split at h <;> cases h; omega

theorem keeps_checkOrientation {s : State} {f : Frame} (adopt : Bool) (room : Room s f.port) :
    Keeps s (checkOrientation s f adopt) := by
  unfold checkOrientation
  split
  · exact keeps_refuse _ room
  · have placed (ids : List Nat) (u : State) : Keeps u (placeCheckAims u f.port ids) := by
      unfold placeCheckAims
      induction ids generalizing u with
      | nil => exact .refl u
      | cons id ids ih => exact (keeps_placeAim ..).trans (ih _)
    exact (((keeps_station (.inl (by rfl))).trans (keeps_takeWakeCause ..)).trans (placed ..)).trans
        (keeps_afterEvent _)

/-- The clock takes a possible date and time. -/
theorem keeps_clock {s : State} {c : Clock} (h : s.clock.ok = true → c.ok = true) : Keeps s { s with clock := c } :=
  ⟨id, id, id, fun ⟨ports, clock, rest⟩ => ⟨ports, h clock, rest⟩, rfl⟩

theorem keeps_setClock {s : State} {c : Clock} (h : s.clock.ok = true → c.ok = true) : Keeps s (setClock s c) :=
  .ite (fun _ => (keeps_clock h).trans (keeps_notifyAll ..)) fun _ => keeps_clock h

theorem room_setClock {s : State} {p : Port} (h : Room s p) (c : Clock) : Room (setClock s c) p := by
  simp only [setClock]; split
  · exact Room.notifyAll h _
  · exact h

theorem keeps_alignMinute {s : State} {f : Frame} (room : Room s f.port) : Keeps s (alignMinute s f) :=
  .ite (fun _ => (keeps_setClock alignClock_ok).trans (keeps_answer _ (room_setClock room _))) fun _ =>
      keeps_refuse _ room

theorem keeps_countOnce (s : State) : Keeps s (countOnce s) := by
  have counted : Keeps s (setClock { s with elapsed := nextCount s.elapsed } (countClock s.clock)) :=
    Carries.trans (t := { s with elapsed := nextCount s.elapsed }) ⟨id, id, id, id, rfl⟩ (keeps_setClock countClock_ok)
  have ticked : Keeps s _ := counted.trans (.ite (c := (countClock s.clock).sub % 64 = 0)
    (t := { setClock { s with elapsed := nextCount s.elapsed } (countClock s.clock) with
      tickDue := some (countClock s.clock) })
    (fun _ => ⟨id, id, id, id, rfl⟩) fun _ => .refl _)
  exact ticked.trans (.ite (fun _ => ⟨id, id, id, id, rfl⟩) fun _ => .refl _)

/-! ### Rounds -/

theorem keeps_setRound {s : State} {f : Frame} (x : RoundFields) (room : Room s f.port) : Keeps s (setRound s f x) :=
  .ite (fun _ => keeps_refuse _ room) fun _ => (keeps_putRound ..).trans (keeps_answer _ room)

theorem keeps_armRound {s : State} {f : Frame} (n : RoundNo) (room : Room s f.port) : Keeps s (armRound s f n) := by
  refine .ite (fun _ => keeps_refuse _ room) fun _ => .ite (fun _ => keeps_refuse _ room) fun _ => ?_
  split
  · exact ((keeps_passBoundary ..).trans (keeps_putRound ..)).trans (keeps_answer _ room)
  · exact keeps_answer _ room
  · exact .ite (fun _ => keeps_refuse _ room) fun _ => keeps_answer _ room

theorem keeps_disarmRound {s : State} {f : Frame} (n : RoundNo) (room : Room s f.port) :
    Keeps s (disarmRound s f n) := by
  unfold disarmRound
  split
  · exact keeps_answer _ room
  · exact (keeps_putRound ..).trans (keeps_answer _ room)
  · refine .ite (fun _ => keeps_answer _ room) fun _ => ?_
    refine ((keeps_stopRun ..).trans (keeps_answer _ (room.congr ?_))).trans (keeps_afterEvent _)
    simp only [stopRun]
    obtain ⟨waiting, slots, writes⟩ := freeSlots_writes (putRound s n _) (removable n)
    rw [writes]; rfl

theorem keeps_testRound (s : State) (n : RoundNo) : Keeps s (testRound s n) := by
  unfold testRound
  split
  · exact .refl s
  · refine .ite (fun _ => (keeps_passBoundary ..).trans (.ite (fun _ => ?_) fun _ => .refl _)) fun _ => .refl s
    split
    · exact .refl _
    · exact (keeps_startRun ..).trans (keeps_afterEvent _)
    · exact keeps_putRound ..

/-! ### The drive, rest and the port's own requests -/

theorem keeps_clearFault {s : State} {f : Frame} (room : Room s f.port) : Keeps s (clearFault s f) :=
  .ite (fun _ => ((keeps_driveClearFault s).trans (keeps_answer _ (room.congr (by simp)))).trans (keeps_afterEvent _))
    fun _ => keeps_answer _ room

theorem keeps_restRequest {s : State} {f : Frame} (room : Room s f.port) : Keeps s (restRequest s f) := by
  unfold restRequest
  split
  · exact keeps_answer _ room
  · exact keeps_refuse _ room
  · exact .ite (fun _ => ((keeps_enterRest s).trans (keeps_answer _ room)).trans (keeps_notifyAll ..))
      fun _ => keeps_refuse _ room

theorem keeps_setPermissions {s : State} {f : Frame} (p : Port) (room : Room s f.port) :
    Keeps s (setPermissions s f p) :=
  (keeps_modPort (by exact id)).trans (keeps_answer _ (room.modPort fun _ => rfl))

theorem lowerTo_rank_le (ceiling l : Level) : (lowerTo ceiling l).rank ≤ ceiling.rank := by
  unfold lowerTo; split <;> omega

theorem levelFieldsOf_rank_le {b : List Byte} {x : LevelFields} (h : levelFieldsOf b = some x) :
    x.default.rank ≤ x.ceiling.rank := by
  simp only [levelFieldsOf, bind, Option.bind_eq_some_iff, Option.some.injEq] at h
  obtain ⟨p, -, d, -, c, -, rfl⟩ := h
  exact lowerTo_rank_le c d

theorem keeps_setPortLevels {s : State} {f : Frame} {x : LevelFields} (order : x.default.rank ≤ x.ceiling.rank)
    (room : Room s f.port) : Keeps s (setPortLevels s f x) :=
  (keeps_modPort fun ok => ⟨ok.1, order⟩).trans (keeps_answer _ (room.modPort fun _ => rfl))

theorem keeps_setConfig {s : State} {f : Frame} (room : Room s f.port) : Keeps s (setConfig s f) := by
  have applied : Keeps s { s with settings := settingsOf f.body s.settings } :=
    ⟨id, id, id, fun ⟨ports, clock, settings, rest⟩ => ⟨ports, clock, settingsOf_ok _ settings, rest⟩, rfl⟩
  refine (applied.trans (keeps_replaceIdleDeadline _ s.settings.idleRest)).trans (keeps_answer _ (room.congr ?_))
  unfold replaceIdleDeadline; split
  · split <;> rfl
  · rfl

theorem keeps_readStatus {s : State} {f : Frame} (room : Room s f.port) : Keeps s (readStatus s f) :=
  (keeps_modPort (by exact id)).trans (keeps_answer _ (room.modPort fun _ => rfl))

theorem keeps_setAttentionMode {s : State} {f : Frame} (m : AttentionMode) (room : Room s f.port) :
    Keeps s (setAttentionMode s f m) :=
  (keeps_modPort (by exact id)).trans (keeps_answer _ (room.modPort fun _ => rfl))

/-! ### PORT_RESET -/

theorem keeps_resetAims (s : State) (p : Port) : Keeps s (resetAims s p) := by
  simp only [resetAims]
  split
  · next own =>
    obtain ⟨i, a, held, origin, port, active⟩ := (activeOwn_iff s p).mp own
    refine (carries_abandonAttempt held active).trans (carries_freeSlots_ended ?_)
    have : slotAt (abandonAttempt s) i = some a := by simpa [slotAt, abandonAttempt] using held
    rw [this]
    simp [resetRemoves, origin, port]
  · next other =>
    refine keeps_freeSlots fun i a held removed active => other ((activeOwn_iff s p).mpr ⟨i, a, held, ?_⟩)
    cases origin : a.origin <;> simp_all [resetRemoves]

theorem keeps_uncountCheck (s : State) (p : Port) : Keeps s (uncountCheck s p) := keeps_station (.inl rfl)

theorem keeps_resetTrack (s : State) (p : Port) : Keeps s (resetTrack s p) :=
  .ite (fun _ => keeps_endTrack ..) fun _ => .refl _

theorem keeps_resetPort (s : State) (p : Port) : Keeps s (resetPort s p) := by
  have cleared : Keeps s (modPort s p clearPort) := keeps_modPort fun ok => ⟨Nat.zero_le _, ok.2⟩
  unfold resetPort
  exact (((cleared.trans (keeps_putClaim ..)).trans (keeps_resetAims ..)).trans (keeps_resetTrack ..)).trans
    (keeps_uncountCheck ..)

/-! ### Reads -/

/-- A record appended where the bounds of an earlier state leave a place free. -/
theorem Carries.appendReply {s u : State} {p : Port} (h : Keeps s u) (r : Reply) (room : BoundsOk s → Room u p) :
    Keeps s (appendReply u p r) :=
  ⟨h.table, h.work, h.power, fun ok => (keeps_appendReply r (room ok)).bounds (h.bounds ok), h.queue⟩

theorem keeps_appendHeld {s u : State} {p : Port} (h : Keeps s u) (room : BoundsOk s → Room u p) :
    Keeps s (appendHeld u p) := by
  unfold appendHeld
  split
  · exact h
  · next first rest _ =>
    have taken : Keeps s (modPort u p fun q => { q with held := rest }) := h.trans (keeps_modPort id)
    have room (ok : BoundsOk s) : Room (modPort u p fun q => { q with held := rest }) p := (room ok).modPort fun _ =>
        rfl
    cases first with
    | record r d => exact taken.appendReply r room
    | aim i =>
      dsimp only
      split
      · next a held =>
        unfold appendHeldAim
        split
        · next r state =>
          refine ((taken.appendReply r room).trans (keeps_putSlot ?_ notActive_none)).trans (keeps_afterEvent _)
          have : slotAt (Machine.appendReply (modPort u p fun q => { q with held := rest }) p r) i = some a := held
          rw [this, notActive_some, state]; simp
        · exact taken
      · exact taken

theorem keeps_replyRead (s : State) (p : Port) (n : Nat) : Keeps s (replyRead s p n) := by
  unfold replyRead
  split
  · exact keeps_clockOut ..
  · next r rest replies =>
    refine .ite (fun _ => ?_) fun _ => keeps_clockOut ..
    have dropped (u : State) : Keeps u (dropOldest u p) :=
      keeps_modPort fun ok => ⟨by have := ok.1; simp only [List.length_tail]; omega, ok.2⟩
    refine keeps_appendHeld ((keeps_clockOut ..).trans (dropped _)) fun ok => ?_
    have := (ok.1 p).1
    rw [replies] at this
    simp only [Room, dropOldest, portRecord_modPort_same, clockOut, replies, List.tail_cons]
    simpa [Nat.lt_succ_iff] using this

theorem keeps_fixRead (s : State) (p : Port) (n : Nat) : Keeps s (fixRead s p n) := by
  unfold fixRead
  split
  · exact keeps_clockOut ..
  · exact .ite (fun _ => (keeps_clockOut ..).trans (keeps_modPort (by exact id))) fun _ => keeps_clockOut ..

/-! ### Deliveries -/

theorem keeps_encoder {s : State} {e : Encoder} (h : e.wf = true) : Keeps s { s with encoder := e } :=
  ⟨id, id, id, fun ⟨ports, clock, settings, _, rest⟩ => ⟨ports, clock, settings, h, rest⟩, rfl⟩

theorem keeps_tellArrival (s : State) (c : Option Commander) : Keeps s (tellArrival s c) := by
  unfold tellArrival
  split
  · exact keeps_attemptArrival s
  · exact keeps_trackArrival s
  · exact .refl s

theorem keeps_readingsInMove {s : State} {m : Move} (moving : s.drive = .moving m) : Keeps s (readingsInMove s m) := by
  have run : s.drive.inRun = true := by rw [moving]; rfl
  refine .ite (fun _ => .ite (fun _ => keeps_drive run rfl) fun _ => .refl s)
    fun _ => .ite (fun _ => ?_) fun _ => .refl s
  exact (keeps_drive run rfl).trans (keeps_tellArrival ..)

theorem keeps_takeReadings (s : State) {e : Encoder} (h : e.wf = true) : Keeps s (takeReadings s e) := by
  refine (keeps_encoder h).trans ?_
  unfold takeReadings
  dsimp only
  split
  · next m moving => exact keeps_readingsInMove (by exact moving)
  · next held holding =>
    exact .ite (fun _ => keeps_enterFault (by show s.drive.inRun = true; rw [holding]; rfl) _) fun _ => .refl _
  · exact .refl _
  · exact .refl _
  · exact .refl _

theorem keeps_takeFrame (s : State) (g : List Sighting) : Keeps s (takeFrame s g) := by
  unfold takeFrame
  split
  · next t attempt =>
    exact .ite (fun _ => (keeps_judgeFrame (by rw [InFlight, attempt]; rfl) _).trans (keeps_afterEvent _))
      fun _ => .refl s
  · next t _ track =>
    exact .ite (fun _ => (keeps_trackFrame (by rw [track]; simp) ..).trans (keeps_afterEvent _)) fun _ => .refl s
  · exact .refl s

theorem keeps_overRange (s : State) (t : TiltSample) : Keeps s (overRange s t) :=
  .ite (fun _ => ((keeps_attemptTilt ..).trans (keeps_endHoldingTrack ..)).trans (keeps_afterEvent _)) fun _ => .refl s

theorem keeps_answerDistance (s : State) (n : Nat) (a : DistanceAnswer) : Keeps s (answerDistance s n a) := by
  unfold answerDistance
  split
  · exact .ite (fun _ => keeps_takeAnswer ..) fun _ => .refl s
  · exact .refl s

/-! ### What time brings -/

theorem keeps_takeTick (s : State) : Keeps s (takeTick s) := by
  unfold takeTick
  split
  · exact .refl s
  · have taken : Keeps s { s with tickDue := none } := ⟨id, id, id, id, rfl⟩
    refine taken.trans ?_
    dsimp only
    split
    · exact .refl _
    · next t track =>
      exact .ite (fun _ => keeps_tickTrack (by show s.track ≠ none; rw [track]; simp) ..) fun _ => .refl _

theorem keeps_stallMove (s : State) : Keeps s (stallMove s) := by
  unfold stallMove
  split
  · next m moving =>
    exact .ite (fun _ => (keeps_reach ..).trans
      (keeps_enterFault (by simp [moving, Drive.inRun]) _)) fun _ => .refl s
  · exact .refl s

theorem keeps_expireRequest (s : State) : Keeps s (expireRequest s) := by
  unfold expireRequest
  split
  · exact .ite (fun _ => keeps_takeExpiry ..) fun _ => .refl s
  · exact .refl s

theorem keeps_retryAim (s : State) (i : SlotNo) : Keeps s (retryAim s i) := by
  unfold retryAim
  split
  · next a held =>
    split
    · next due state =>
      refine .ite (fun _ => ((keeps_reach ..).trans (keeps_enterQueued ?_ a)).trans (keeps_afterEvent _))
        fun _ => .refl s
      have : slotAt (reach s due) i = some a := held
      rw [this, notActive_some, state]; simp
    · exact .refl s
  · exact .refl s

theorem keeps_endCoast (s : State) : Keeps s (endCoast s) := by
  unfold endCoast
  split
  · next t track =>
    split
    · exact .ite (fun _ => ((keeps_reach ..).trans (keeps_trackSearch (by simp [track]) _)).trans (keeps_afterEvent _))
        fun _ => .refl s
    · exact .refl s
  · exact .refl s

theorem keeps_holdOver (s : State) : Keeps s (holdOver s) := by
  unfold holdOver
  split
  · next t track =>
    split
    · exact .ite (fun _ => (((keeps_reach ..).trans (keeps_setTrack (by simp [track]) _)).trans
        (keeps_holdTest _)).trans
        (keeps_afterEvent _)) fun _ => .refl s
    · exact .refl s
  · exact .refl s

/-- R193: WAKING goes back to REST with the drive OFF, or on to RUN with the drive HOLDING. -/
theorem keeps_settle {s : State} {d : Nat} {causes : Mask 6} (waking : s.power = .waking d causes) :
    Keeps s (settle s causes) := by
  have settling : PowerOk s → s.drive = .settling := fun ok => by rw [powerOk_iff, waking] at ok; exact ok
  refine .ite (fun _ => keeps_of_power (fun ok => ?_) ?_) fun _ => ?_
  · simp [powerOk_iff, driveReturnToRest, settling ok]
  · simp only [driveReturnToRest]; split <;> rfl
  · refine Carries.trans (keeps_of_power (fun ok => ?_) ?_) ((keeps_notifyAll ..).trans (keeps_afterEvent _))
    · simp [powerOk_iff, driveSettleEnd, settling ok, Drive.inRun]
    · simp only [driveSettleEnd]; split <;> rfl

theorem keeps_restAtDeadline (s : State) (d : Nat) : Keeps s (restAtDeadline s d) :=
  .ite (fun _ => ((keeps_reach ..).trans (keeps_enterRest _)).trans (keeps_notifyAll ..)) fun _ => .refl s

theorem keeps_endPulse (s : State) (p : Port) : Keeps s (endPulse s p) := by
  unfold endPulse
  split
  · exact .ite (fun _ => (keeps_reach ..).trans (keeps_modPort (by exact id))) fun _ => .refl s
  · exact .refl s

end Sys2Proof.Machine
end

section
/-! PROOFS. Every command, and so every step, keeps the conditions of Safety.lean; the state after power-on meets
them. -/

namespace Sys2Proof.Machine

/-! ### The state after power-on -/

theorem setAt_reset (k : Fin 32) : setAt State.reset k = TableSet.reset := by simp [setAt, State.reset]

theorem slotAt_reset (i : SlotNo) : slotAt State.reset i = none := by simp [slotAt, State.reset]

theorem tableOk_reset : TableOk State.reset := by
  intro k
  rw [setAt_reset]
  decide +revert

theorem workOk_reset : WorkOk State.reset :=
  ⟨⟨fun i => by rw [slotAt_reset]; decide +revert, rfl⟩, by unfold TrackOk; decide⟩

theorem portsOk_reset : PortsOk State.reset := fun p => by cases p <;> decide

theorem rangesOk_reset : RangesOk State.reset := by unfold RangesOk; decide

/-- Settles O56: each group of the conditions at power-on. -/
theorem safeAtPowerOn : Obligations.SafeAtPowerOn :=
  ⟨tableOk_reset, workOk_reset.1, workOk_reset.2, trivial, portsOk_reset, rangesOk_reset⟩

/-! ### Resets -/

theorem encoderAt_wf (n : Nat) : (encoderAt n).wf = true := by
  have h := (Config.encoderAtPowerOn n).1.1.isLt
  have v := (Config.encoderAtPowerOn n).1.2.isLt
  simp only [Encoder.wf, Bool.and_eq_true, decide_eq_true_eq]
  simp only [encoderAt]
  omega

theorem keeps_powerOn (s : State) : Keeps s (powerOn s) := by
  obtain ⟨clock, settings, -, omega⟩ := rangesOk_reset
  exact ⟨fun _ => tableOk_reset, fun _ => workOk_reset, fun _ => trivial,
    fun _ => ⟨portsOk_reset, clock, settings, encoderAt_wf _, omega⟩, rfl⟩

theorem portOk_resetPortRecord (now : Nat) {q : PortRecord} (h : PortOk q) : PortOk (resetPortRecord now q) := by
  rw [resetPortRecord, portOk_addNotice]; exact ⟨Nat.zero_le _, h.2⟩

theorem keeps_resetPart (s : State) : Keeps s (resetPart s) where
  table ok := by
    rw [tableOk_iff]
    intro k
    have : setAt (resetPart s) k = resetSet (setAt s k) := by simp [setAt, resetPart]
    rw [this]
    exact (ok.setOk k).reset
  work _ := by
    refine ⟨⟨fun i => ?_, rfl⟩, by simp [TrackOk, resetPart]⟩
    have : slotAt (resetPart s) i = none := by simp [slotAt, resetPart]
    rw [this]; simp [resetPart]
  power _ := trivial
  bounds := fun ⟨ports, ranges⟩ => by
    refine ⟨fun p => ?_, ranges⟩
    cases p
    · exact portOk_resetPortRecord _ (ports .a)
    · exact portOk_resetPortRecord _ (ports .b)
    · exact portOk_resetPortRecord _ (ports .c)
  queue := rfl

theorem keeps_discardUnderWay (s : State) (p : Port) (bytes : Option Nat) : Keeps s (discardUnderWay s p bytes) := by
  unfold discardUnderWay
  split
  · exact .refl s
  · exact keeps_clockOut ..

/-! ### Commands and steps -/

/-- Every command keeps the conditions of Safety.lean. -/
theorem keeps_exec {c : Instr} {s t : State} (h : exec c s = .next t) : Keeps s t := by
  cases c with
  | powerOn => cases h; exact keeps_powerOn s
  | resetLine u =>
    cases h
    exact (((keeps_resetPart s).trans (keeps_discardUnderWay ..)).trans (keeps_discardUnderWay ..)).trans
      (keeps_discardUnderWay ..)
  | wakeLineAssert =>
    cases h
    exact .ite (fun _ => .refl s) fun _ => Carries.trans (t := { s with wakeLine := true }) ⟨id, id, id, id, rfl⟩
      (keeps_takeWakeCause ..)
  | wakeLineRelease => cases h; exact ⟨id, id, id, id, rfl⟩
  | ignoredTransaction p first n =>
    simp only [exec, execIgnoredTransaction] at h
    split at h <;> cases h
    exact keeps_clockOut ..
  | unknownRequest kind f =>
    simp only [exec, execUnknownRequest] at h
    split at h
    · exact keeps_request h fun u room => keeps_refuse _ room
    · cases h
  | replyRead p n => cases h; exact keeps_replyRead ..
  | fixRead p n => cases h; exact keeps_fixRead ..
  | readTarget f => exact keeps_request h fun u room => keeps_withFields room fun x _ => keeps_readTarget _ _ room
  | readSet f => exact keeps_request h fun u room => keeps_withFields room fun k _ => keeps_answer _ room
  | writeTarget f => exact keeps_request h fun u room => keeps_withFields room fun w _ => keeps_writeTarget w room
  | writeTargetIfReserved f =>
    exact keeps_request h fun u room => keeps_withFields room fun w _ => keeps_writeIfReserved w room
  | forgetTarget f => exact keeps_request h fun u room => keeps_withFields room fun id _ => keeps_forgetTarget id room
  | waitChange f => exact keeps_request h fun u room => keeps_waitChange room
  | aim f => exact keeps_request h fun u room => keeps_withFields room fun x _ => keeps_requestAim x room
  | aimDirection f => exact keeps_request h fun u room => keeps_withFields room fun x _ => keeps_requestAim x room
  | cancelAim f => exact keeps_request h fun u room => keeps_cancelAim room
  | wake f => exact keeps_request h fun u room => keeps_wake room
  | startTrack f => exact keeps_request h fun u room => keeps_withFields room fun x _ => keeps_startTrack x room
  | stopTrack f => exact keeps_request h fun u room => keeps_stopTrack room
  | setOrientation f =>
    exact keeps_request h fun u room => keeps_withFields room fun x hx => keeps_setOrientation (angleOf_range hx) room
  | checkOrientation f =>
    exact keeps_request h fun u room => keeps_withFields room fun x _ => keeps_checkOrientation x room
  | readStation f => exact keeps_request h fun u room => keeps_answer _ room
  | setTime f =>
    exact keeps_request h fun u room => keeps_withFields room fun c hc =>
      (keeps_clock fun _ => ((timeOf_eq_some_iff _ c).mp hc).1).trans (keeps_answer _ room)
  | alignMinute f => exact keeps_request h fun u room => keeps_alignMinute room
  | readTime f => exact keeps_request h fun u room => keeps_answer _ room
  | setRound f => exact keeps_request h fun u room => keeps_withFields room fun x _ => keeps_setRound x room
  | armRound f => exact keeps_request h fun u room => keeps_withFields room fun n _ => keeps_armRound n room
  | disarmRound f => exact keeps_request h fun u room => keeps_withFields room fun n _ => keeps_disarmRound n room
  | readRound f => exact keeps_request h fun u room => keeps_withFields room fun n _ => keeps_answer _ room
  | clearFault f => exact keeps_request h fun u room => keeps_clearFault room
  | rest f => exact keeps_request h fun u room => keeps_restRequest room
  | readStatus f => exact keeps_request h fun u room => keeps_readStatus room
  | setAttentionMode f =>
    exact keeps_request h fun u room => keeps_withFields room fun m _ => keeps_setAttentionMode m room
  | portReset f =>
    simp only [exec, execPortReset] at h
    split at h
    · split at h <;> cases h
      · exact ((keeps_clockOut ..).trans (keeps_resetPort ..)).trans (keeps_afterEvent _)
      · exact keeps_clockOut ..
    · cases h; exact .refl s
  | setPermissions f =>
    exact keeps_request h fun u room => keeps_withFields room fun p _ => keeps_setPermissions p room
  | setPortLevels f =>
    exact keeps_request h fun u room => keeps_withFields room fun x hx =>
      keeps_setPortLevels (levelFieldsOf_rank_le hx) room
  | setConfig f => exact keeps_request h fun u room => keeps_setConfig room
  | partReset f u =>
    simp only [exec, execPartReset] at h
    split at h
    · cases h
      exact (((keeps_resetPart s).trans (keeps_discardUnderWay ..)).trans (keeps_discardUnderWay ..)).trans
        (keeps_clockOut ..)
    · exact keeps_request h fun u _ => .refl u
  | encoderReadings e =>
    simp only [exec, execEncoderReadings] at h
    split at h <;> cases h
    exact keeps_takeReadings s ‹_›
  | stallDeadline => cases h; exact keeps_stallMove s
  | lockSensorFrame g =>
    simp only [exec, execLockSensorFrame] at h
    split at h <;> cases h
    exact keeps_takeFrame ..
  | tiltSample sample =>
    simp only [exec, execTiltSample] at h
    split at h <;> cases h
    exact (keeps_takeTilt ..).trans (keeps_overRange ..)
  | clockCount => cases h; exact keeps_countOnce s
  | trackTick => cases h; exact keeps_takeTick s
  | roundFire n => cases h; exact keeps_testRound s n
  | distanceAnswer n a => cases h; exact keeps_answerDistance s n a
  | distanceExpiry => cases h; exact keeps_expireRequest s
  | retryDue i => cases h; exact keeps_retryAim s i
  | coastDeadline => cases h; exact keeps_endCoast s
  | holdDeadline => cases h; exact keeps_holdOver s
  | settleDeadline =>
    cases h
    split
    · next d causes waking =>
      exact .ite (fun _ => (keeps_reach s d).trans (keeps_settle (by exact waking))) fun _ => .refl s
    · exact .refl s
  | idleDeadline =>
    cases h
    split
    · exact keeps_restAtDeadline ..
    · exact .refl s
  | attentionPulseEnd p => cases h; exact keeps_endPulse s p

/-- What every command keeps, the queue of commands apart, every step keeps. -/
theorem kept_of_exec {inv : State → Prop} (dequeue : ∀ s rest, inv s → inv { s with pending := rest })
    (h : ∀ {c s t}, exec c s = .next t → inv s → inv t) : Kept inv := by
  intro s t ok answers
  cases queue : s.pending with
  | nil => rw [step_nil queue] at answers; cases answers; exact ok
  | cons c rest => rw [step_cons queue] at answers; exact h answers (dequeue s rest ok)

/-- Settles O57: writes to a way keep its set in order (`SetOk.store`, `SetOk.drop`, `SetOk.reset`), and nothing else
writes the table. -/
theorem everyStepKeepsTheTable : Obligations.EveryStepKeepsTheTable :=
  kept_of_exec (fun _ _ ok => ok) fun h => (keeps_exec h).table

/-- Settles O58: an aim gains the axes in `dispatch` alone and loses them with its attempt, through `Chosen` and
`Ended`. -/
theorem everyStepKeepsTheGrant : Obligations.EveryStepKeepsTheGrant :=
  kept_of_exec (fun _ _ ok => ok) fun h => (keeps_exec h).work

/-- Settles O59: the power state changes with the drive, and the drive changes inside RUN otherwise. -/
theorem everyStepKeepsDriveAndPower : Obligations.EveryStepKeepsDriveAndPower :=
  kept_of_exec (fun _ _ ok => ok) fun h => (keeps_exec h).power

/-- Settles O60: a record is appended where a place is free, and what a request sets is in its range. -/
theorem everyStepKeepsTheBounds : Obligations.EveryStepKeepsTheBounds :=
  kept_of_exec (fun _ _ ok => ok) fun h => (keeps_exec h).bounds

end Sys2Proof.Machine
end

section
/-! PROOFS. Request frames: which are discarded, which are refused, and which act (R197, R198, R209). -/

namespace Sys2Proof.Machine
open Sys2Proof.Claims

/-! ### What a request transaction answers, by its transaction status -/

theorem request_incomplete {s : State} {f : Frame} (k : RequestKind) (act : State → State) (h : f.complete = false) :
    request s f k act = .next s := by
  simp [request, h]

theorem request_discarded {s : State} {f : Frame} {k : RequestKind} {st : TransactionStatus} (act : State → State)
    (complete : f.complete = true) (status : transactionStatus s f k = st) (discards : st ≠ .accepted) :
    request s f k act = .next (clockOut s f.port (frameOut f st)) := by
  cases st <;> simp_all [request]

theorem request_accepted {s : State} {f : Frame} {k : RequestKind} (act : State → State) (complete : f.complete = true)
    (status : transactionStatus s f k = .accepted) : request s f k act = .next (answerRequest (taken s f) f k act) := by
  simp only [request, complete, status, if_true]; rfl

theorem request_next (s : State) (f : Frame) (k : RequestKind) (act : State → State) :
    ∃ t, request s f k act = .next t := by
  obtain ⟨-, eq⟩ | ⟨_, -, -, eq⟩ | ⟨-, -, eq⟩ := request_cases s f k act <;> exact ⟨_, eq⟩

/-- R197 case 1, for a kind with a list of lengths. -/
theorem badLength_iff (g : Gate) (ls : List Nat) (d : Bool) (f : Frame) :
    badLength { gate := g, lengths := some ls, deferred := d } f.body.length = true ↔ wrongLength ls f := by
  simp [badLength, wrongLength]

theorem transactionStatus_badFrame {s : State} {f : Frame} {k : RequestKind} (h : badLength k f.body.length = true) :
    transactionStatus s f k = .badFrame := by
  simp [transactionStatus, h]

theorem transactionStatus_portFull {s : State} {f : Frame} {k : RequestKind}
    (length : badLength k f.body.length = false)
    (full : 8 ≤ (portRecord s f.port).replies.length ∨ (k.deferred = true ∧ 6 ≤ openCount s f.port)) :
    transactionStatus s f k = .portFull := by
  simp only [transactionStatus, length, Bool.false_eq_true, if_false]
  rcases full with full | ⟨deferred, open6⟩
  · simp [full]
  · split
    · rfl
    · simp [deferred, open6]

theorem transactionStatus_accepted {s : State} {f : Frame} {k : RequestKind}
    (length : badLength k f.body.length = false)
    (room : (portRecord s f.port).replies.length < 8) (open6 : k.deferred = true → openCount s f.port < 6) :
    transactionStatus s f k = .accepted := by
  simp only [transactionStatus, length, Bool.false_eq_true, if_false, Nat.not_le.mpr room]
  rw [if_neg]
  simp only [Bool.and_eq_true, decide_eq_true_eq, not_and, Nat.not_le]
  exact open6

/-! ### The kinds of request -/

/-- Section 12.2: what a command of a request kind runs, by its gate, its lengths and whether it is deferred. -/
theorem exec_eq_request {c : Instr} {f : Frame} {g : Gate} {ls : List Nat} {d : Bool}
    (h : kindOf c = some (f, g, ls, d)) :
    ∃ act, ∀ s, exec c s = request s f { gate := g, lengths := some ls, deferred := d } act := by
  cases c <;> cases h <;> exact ⟨_, fun _ => rfl⟩

/-- Section 12.2: no kind permits a body of more than 60 bytes. -/
theorem kindOf_lengths {c : Instr} {f : Frame} {g : Gate} {ls : List Nat} {d : Bool}
    (h : kindOf c = some (f, g, ls, d)) : ∀ n ∈ ls, n ≤ 60 := by
  cases c <;> cases h <;> decide

theorem not_wrongLength {ls : List Nat} {f : Frame} (length : f.body.length ∈ ls) (short : ∀ n ∈ ls, n ≤ 60) :
    ¬ wrongLength ls f := by
  rintro (long | other)
  · have := short _ length; omega
  · exact other length

/-- R197: a frame of a wrong length, or one that finds no place, is discarded; R198 step 2: one that is taken is asked
for its permission. -/
theorem request_of_wrongLength {s : State} {f : Frame} {g : Gate} {ls : List Nat} {d : Bool} (act : State → State)
    (complete : f.complete = true) (wrong : wrongLength ls f) :
    request s f { gate := g, lengths := some ls, deferred := d } act = .next (clocked s f.port (bytesOut f 0xE2#8)) :=
  request_discarded act complete (transactionStatus_badFrame ((badLength_iff ..).mpr wrong)) (by decide)

theorem request_of_full {s : State} {f : Frame} {g : Gate} {ls : List Nat} {d : Bool} (act : State → State)
    (complete : f.complete = true) (length : ¬ wrongLength ls f)
    (full : 8 ≤ (portRecord s f.port).replies.length ∨ (d = true ∧ 6 ≤ openCount s f.port)) :
    request s f { gate := g, lengths := some ls, deferred := d } act = .next (clocked s f.port (bytesOut f 0xF1#8)) :=
  request_discarded act complete
    (transactionStatus_portFull (Bool.eq_false_iff.mpr (mt (badLength_iff ..).mp length)) full) (by decide)

theorem request_of_denied {s : State} {f : Frame} {g : Gate} {ls : List Nat} {d : Bool} (act : State → State)
    (complete : f.complete = true) (length : ¬ wrongLength ls f) (room : (portRecord s f.port).replies.length < 8)
    (open6 : d = true → openCount s f.port < 6)
    (mayNot : permitted f.port (portRecord s f.port).permissions g = false) :
    request s f { gate := g, lengths := some ls, deferred := d } act = .next (refused s f .notPermitted) := by
  rw [request_accepted act complete (transactionStatus_accepted
      (Bool.eq_false_iff.mpr (mt (badLength_iff ..).mp length))
    room open6), answerRequest_of_not_permitted]
  · rfl
  · rw [← mayNot]
    exact congrArg (fun m => permitted f.port m g) (permissions_clockOut ..)

/-- R197 case 4: a deferred request that the port may send acts on the state that has taken its frame. -/
theorem request_of_mayDefer {s : State} {f : Frame} {g : Gate} {ls : List Nat} (act : State → State)
    (ask : MayDefer s f g ls) (short : ∀ n ∈ ls, n ≤ 60) :
    request s f (deferredKind g ls) act = .next (act (taken s f)) := by
  obtain ⟨⟨complete, length, room, may⟩, open6⟩ := ask
  exact request_acts complete length short room (fun _ => open6) may

/-! ### Kinds that are not defined -/

theorem unknownRequest_discarded {s : State} {f : Frame} {kind : Byte} {st : TransactionStatus}
    (unknown : unknownKind kind = true) (complete : f.complete = true)
    (status : transactionStatus s f unknownKindRequest = st) (discards : st ≠ .accepted) :
    exec (.unknownRequest kind f) s = .next (clockOut s f.port (frameOut f st)) := by
  rw [← request_discarded (fun s => refuse s f .unknownRequest) complete status discards]
  exact if_pos unknown

theorem badLength_unknownKind (n : Nat) : badLength unknownKindRequest n = decide (60 < n) := by
  simp [badLength, unknownKindRequest]

/-! ### PORT_RESET and PART_RESET -/

theorem exec_portReset_incomplete {f : Frame} (s : State) (h : f.complete = false) :
    exec (.portReset f) s = .next s := by
  simp [exec, execPortReset, h]

theorem exec_portReset_badFrame {f : Frame} (s : State) (complete : f.complete = true) (body : f.body ≠ []) :
    exec (.portReset f) s = .next (clocked s f.port (bytesOut f 0xE2#8)) := by
  simp only [exec, execPortReset, complete, if_true, List.length_eq_zero_iff, body, if_false]; rfl

/-- R197 case 2: a PART_RESET that is not taken from port A at once is a setup request like others. -/
theorem exec_partReset_request {f : Frame} (u : UnderWay) (s : State)
    (h : f.complete = false ∨ f.port ≠ .a ∨ f.body ≠ []) :
    exec (.partReset f u) s = request s f (immediate .setup [0]) (fun s => s) := by
  simp only [exec, execPartReset]
  rw [if_neg]
  simp only [Bool.and_eq_true, decide_eq_true_eq, List.length_eq_zero_iff]
  rintro ⟨⟨complete, port⟩, body⟩
  rcases h with h | h | h
  · simp [complete] at h
  · exact h port
  · exact h body

theorem wrongLength_zero {f : Frame} (h : f.body ≠ []) : wrongLength [0] f :=
  .inr (by simpa using h)

theorem not_wrongLength_zero {f : Frame} (h : f.body = []) : ¬ wrongLength [0] f :=
  not_wrongLength (by simp [h]) (by decide)

/-! ### The obligations about frames -/

/-- R197: the four ways in which a frame of a kind is discarded. -/
theorem kind_discards {c : Instr} {f : Frame} {g : Gate} {ls : List Nat} {d : Bool} (s : State)
    (kind : kindOf c = some (f, g, ls, d)) :
    (f.complete = false → exec c s = .next s)
    ∧ (f.complete = true → wrongLength ls f → exec c s = .next (clocked s f.port (bytesOut f 0xE2#8)))
    ∧ (f.complete = true → ¬ wrongLength ls f → 8 ≤ (portRecord s f.port).replies.length →
        exec c s = .next (clocked s f.port (bytesOut f 0xF1#8)))
    ∧ (f.complete = true → ¬ wrongLength ls f → d = true → 6 ≤ openCount s f.port →
        exec c s = .next (clocked s f.port (bytesOut f 0xF1#8))) := by
  obtain ⟨act, run⟩ := exec_eq_request kind
  rw [run]
  exact ⟨request_incomplete _ act, request_of_wrongLength act, fun complete length full =>
    request_of_full act complete length (.inl full), fun complete length deferred open6 =>
    request_of_full act complete length (.inr ⟨deferred, open6⟩)⟩

/-- Settles O9: each way of discarding is a transaction status, and a discarded frame leaves its bytes alone. -/
theorem discardedFramesChangeNothing : Obligations.DiscardedFramesChangeNothing := by
  refine ⟨fun c f g ls d s => kind_discards s, fun f u s => ⟨fun incomplete => ?_, fun complete body => ?_, ?_⟩,
    fun kind f s unknown => ⟨fun incomplete => ?_, fun complete long => ?_, fun complete short full => ?_⟩,
    fun p first n s ignored => if_pos ignored⟩
  · refine ⟨exec_portReset_incomplete s incomplete, ?_⟩
    rw [exec_partReset_request u s (.inl incomplete), request_incomplete _ _ incomplete]
  · refine ⟨exec_portReset_badFrame s complete body, ?_⟩
    rw [exec_partReset_request u s (.inr (.inr body))]
    exact request_of_wrongLength _ complete (wrongLength_zero body)
  · intro complete body port full
    rw [exec_partReset_request u s (.inr (.inl port))]
    exact request_of_full _ complete (not_wrongLength_zero body) (.inl full)
  · exact (if_pos unknown).trans (request_incomplete _ _ incomplete)
  · exact unknownRequest_discarded unknown complete
      (transactionStatus_badFrame (by simpa [badLength_unknownKind] using long)) (by decide)
  · exact unknownRequest_discarded unknown complete
      (transactionStatus_portFull (by simpa [badLength_unknownKind] using short) (.inl full)) (by decide)

/-- R198 step 1: an accepted frame of a kind that is not defined is refused UNKNOWN_REQUEST. -/
theorem unknownRequest_refused {kind : Byte} {f : Frame} {s : State} (unknown : unknownKind kind = true)
    (complete : f.complete = true) (short : f.body.length ≤ 60) (room : (portRecord s f.port).replies.length < 8) :
    exec (.unknownRequest kind f) s = .next (refused s f .unknownRequest) := by
  refine (if_pos unknown).trans ((request_accepted _ complete
      (transactionStatus_accepted ?_ room (fun h => by cases h))).trans ?_)
  · simpa [badLength_unknownKind] using short
  · rfl

/-- Settles O10: an accepted frame is asked for its permission before anything else. -/
theorem permissionIsAsked : Obligations.PermissionIsAsked := by
  refine ⟨fun c f g ls d s kind complete length room open6 mayNot => ?_, fun f u s complete body port room => ?_,
    fun _ _ _ => unknownRequest_refused, fun m g => ⟨rfl, rfl, rfl, rfl, rfl⟩⟩
  · obtain ⟨act, run⟩ := exec_eq_request kind
    rw [run]
    exact request_of_denied act complete (not_wrongLength length (kindOf_lengths kind)) room (fun _ => open6) mayNot
  · rw [exec_partReset_request u s (.inr (.inl port))]
    refine request_of_denied _ complete (not_wrongLength_zero body) room nofun ?_
    simp [permitted, port]

/-- Settles O1: a step takes the front command, and idles without one. -/
theorem frontCommandRuns : Obligations.FrontCommandRuns := ⟨fun _ _ _ => step_cons, fun _ => step_nil⟩

/-! ### Every well-formed command answers a next state -/

theorem exec_next_of_wf {c : Instr} (s : State) (wf : c.wf = true) : ∃ t, exec c s = .next t := by
  cases kind : kindOf c with
  | some k =>
    obtain ⟨act, run⟩ := exec_eq_request kind
    rw [run]; exact request_next ..
  | none =>
    cases c <;> cases kind
    case none.ignoredTransaction.refl p first n => exact ⟨_, if_pos wf⟩
    case none.unknownRequest.refl kind f =>
      obtain ⟨unknown, -⟩ := Bool.and_eq_true_iff.mp wf
      obtain ⟨t, eq⟩ := request_next s f unknownKindRequest (fun s => refuse s f .unknownRequest)
      exact ⟨t, (if_pos unknown).trans eq⟩
    case none.portReset.refl f =>
      simp only [exec, execPortReset]
      split
      · split <;> exact ⟨_, rfl⟩
      · exact ⟨_, rfl⟩
    case none.partReset.refl f u =>
      simp only [exec, execPartReset]
      split
      · exact ⟨_, rfl⟩
      · exact request_next ..
    case none.encoderReadings.refl e => exact ⟨_, if_pos wf⟩
    case none.lockSensorFrame.refl g => exact ⟨_, if_pos wf⟩
    case none.tiltSample.refl t => exact ⟨_, if_pos wf⟩
    all_goals exact ⟨_, rfl⟩

/-- Log entry 15: an operand of a command without a frame that no sender can produce is refused. -/
theorem exec_notACommand {c : Instr} (s : State) (ill : c.wf = false) (frameless : frameOf c = none) :
    exec c s = .refused .notACommand := by
  cases c <;> simp only [Instr.wf, frameOf, kindOf, Option.map_some, reduceCtorEq] at ill frameless
  case ignoredTransaction p first n => exact if_neg (by simp [ill])
  case encoderReadings e => exact if_neg (by simp [ill])
  case lockSensorFrame g => exact if_neg (by simp [ill])
  case tiltSample t => exact if_neg (by simp [ill])

/-- Log entry 15: a frame of more than 60 body bytes reads BAD_FRAME, whatever its kind. -/
theorem exec_of_long {c : Instr} {f : Frame} (s : State) (frame : frameOf c = some f) (long : 60 < f.body.length)
    (unknown : ∀ kind g, c = .unknownRequest kind g → unknownKind kind = true) :
    (f.complete = true → exec c s = .next (clocked s f.port (bytesOut f 0xE2#8)))
    ∧ (f.complete = false → exec c s = .next s) := by
  obtain ⟨-, parts, kinds, -⟩ := discardedFramesChangeNothing
  have body : f.body ≠ [] := fun e => by simp [e] at long
  cases kind : kindOf c with
  | some k =>
    obtain ⟨f', g, ls, d⟩ := k
    have same : f' = f := by cases c <;> cases kind <;> exact Option.some.inj frame
    subst same
    obtain ⟨incomplete, wrong, -⟩ := kind_discards s kind
    exact ⟨fun complete => wrong complete (.inl long), incomplete⟩
  | none =>
    cases c <;> cases kind <;> cases frame
    case none.unknownRequest.refl.refl =>
      obtain ⟨incomplete, wrong, -⟩ := kinds _ _ s (unknown _ _ rfl)
      exact ⟨fun complete => wrong complete long, incomplete⟩
    case none.portReset.refl.refl =>
      obtain ⟨incomplete, wrong, -⟩ := parts _ { a := none, b := none, c := none } s
      exact ⟨fun complete => (wrong complete body).1, fun h => (incomplete h).1⟩
    case none.partReset.refl.refl =>
      obtain ⟨incomplete, wrong, -⟩ := parts _ _ s
      exact ⟨fun complete => (wrong complete body).2, fun h => (incomplete h).2⟩

/-- Settles O2: every arm of `exec` ends in a next state, but for the operands of log entry 15; no operation writes the
queue of commands (`Carries.queue`). -/
theorem noCommandStopsTheBlock : Obligations.NoCommandStopsTheBlock := by
  refine fun c s => ⟨fun wf => ?_, exec_notACommand s, ?_, fun f frame long => exec_of_long s frame (by omega)⟩
  · obtain ⟨t, eq⟩ := exec_next_of_wf s wf
    exact ⟨t, eq, (keeps_exec eq).queue⟩
  · rintro kind f rfl unknown
    exact if_neg (by simp [unknown])

end Sys2Proof.Machine
end

section
/-! PROOFS. The fields of a request body: which values have no meaning (R210, section 12.2). -/

namespace Sys2Proof.Machine
open Sys2Proof.Claims

/-! ### Codes and ranges -/

theorem roleOf_eq_none_iff (n : Nat) : roleOf n = none ↔ n = 0 ∨ 4 < n := by
  rcases n with _ | _ | _ | _ | _ | n <;> simp [roleOf]

theorem classOf_eq_none_iff (n : Nat) : classOf n = none ↔ n = 0 ∨ 2 < n := by
  rcases n with _ | _ | _ | n <;> simp [classOf]

theorem faceAskedOf_eq_none_iff (n : Nat) : faceAskedOf n = none ↔ BadCode3 n := by
  rcases n with _ | _ | _ | _ | n <;> simp [faceAskedOf, BadCode3]

theorem levelOf_eq_none_iff (n : Nat) : levelOf n = none ↔ BadCode3 n := by
  rcases n with _ | _ | _ | _ | n <;> simp [levelOf, BadCode3]

theorem portOf_eq_none_iff (n : Nat) : portOf n = none ↔ BadCode3 n := by
  rcases n with _ | _ | _ | _ | n <;> simp [portOf, BadCode3]

theorem intervalOf_eq_none_iff (n : Nat) : intervalOf n = none ↔ 7 < n := by
  rcases n with _ | _ | _ | _ | _ | _ | _ | _ | n <;> simp [intervalOf]

theorem modeOf_eq_none_iff (n : Nat) : modeOf n = none ↔ n = 0 ∨ 2 < n := by
  rcases n with _ | _ | _ | n <;> simp [modeOf]

theorem yesNoOf_eq_none_iff (n : Nat) : yesNoOf n = none ↔ 1 < n := by
  rcases n with _ | _ | n <;> simp [yesNoOf]

theorem roundNoOf_eq_none_iff (n : Nat) : roundNoOf n = none ↔ 3 < n := by
  unfold roundNoOf; split <;> simp <;> omega

theorem roundNoOf_eq_some_iff (n : Nat) (r : RoundNo) : roundNoOf n = some r ↔ n = r.val := by
  unfold roundNoOf; split
  · simp [Fin.ext_iff]
  · simp; omega

theorem idOf_eq_none_iff (n : Nat) : idOf n = none ↔ n = 0 ∨ 65534 < n := by
  unfold idOf; split <;> simp <;> omega

theorem idOf_of_range {n : Nat} (low : 1 ≤ n) (high : n ≤ 65534) : idOf n = some n := if_pos ⟨low, high⟩

theorem angleOf_eq_none_iff (n : Nat) : angleOf n = none ↔ 3999999 < n := by
  unfold angleOf; split <;> simp <;> omega

theorem rangeOf_eq_none_iff (low high n : Nat) : rangeOf low high n = none ↔ n < low ∨ high < n := by
  unfold rangeOf; split <;> simp <;> omega

theorem guestOf_eq_none_iff (n : Nat) : guestOf n = none ↔ n ≤ 1 ∨ 3 < n := by
  rcases n with _ | _ | _ | _ | n <;> simp [guestOf, portOf]

/-! ### Bodies of several fields -/

/-- A body without its first field, or without the others, has no fields. -/
theorem bind_eq_none_iff_or {α β : Type} {x : Option α} {g : α → Option β} {p : Prop}
    (h : ∀ a, x = some a → (g a = none ↔ p)) :
    (x >>= g) = none ↔ x = none ∨ p := by
  cases x with
  | none => simp
  | some a => simpa using h a rfl

theorem readFieldsOf_eq_none_iff (b : List Byte) : readFieldsOf b = none ↔ BadRead b := by
  refine (bind_eq_none_iff_or fun _ _ => bind_eq_none_iff_or (p := False) fun _ _ => by simp).trans ?_
  simp only [idOf_eq_none_iff, rangeOf_eq_none_iff, BadRead, BadId, or_false]
  omega

theorem trackFieldsOf_eq_none_iff (b : List Byte) : trackFieldsOf b = none ↔ BadTrack b := by
  refine (bind_eq_none_iff_or fun _ _ => bind_eq_none_iff_or fun _ _ => bind_eq_none_iff_or (p := False)
    fun _ _ => by simp).trans ?_
  simp only [idOf_eq_none_iff, intervalOf_eq_none_iff, rangeOf_eq_none_iff, BadTrack, BadId, or_false]
  omega

theorem levelFieldsOf_eq_none_iff (b : List Byte) : levelFieldsOf b = none ↔ BadLevels b := by
  refine (bind_eq_none_iff_or fun _ _ => bind_eq_none_iff_or fun _ _ => bind_eq_none_iff_or (p := False)
    fun _ _ => by simp).trans ?_
  simp only [portOf_eq_none_iff, levelOf_eq_none_iff, BadLevels, or_false]

theorem directionPartOf_eq_none_iff (b : List Byte) : directionPartOf b = none ↔
    b.length = 19 ∧ (3999999 < word32At b 11 ∨ word32At b 15 < 250000 ∨ 1750000 < word32At b 15) := by
  unfold directionPartOf
  split
  · next long =>
    refine (bind_eq_none_iff_or fun _ _ => bind_eq_none_iff_or (p := False) fun _ _ => by simp).trans ?_
    simp only [angleOf_eq_none_iff, rangeOf_eq_none_iff, long, true_and, or_false]
  · next short => simp [short]

theorem optionalLevelOf_eq_none_iff (b : List Byte) (k : Nat) :
    optionalLevelOf b k = none ↔ k < b.length ∧ BadCode3 (byteAt b k) := by
  unfold optionalLevelOf
  split
  · next long => simp [long, levelOf_eq_none_iff]
  · next short => simp [short]

theorem writeFieldsOf_eq_none_iff (b : List Byte) : writeFieldsOf b = none ↔ BadWrite b := by
  refine (bind_eq_none_iff_or fun _ _ => bind_eq_none_iff_or fun _ _ => bind_eq_none_iff_or fun _ _ =>
    bind_eq_none_iff_or fun _ _ => bind_eq_none_iff_or fun _ _ => bind_eq_none_iff_or fun _ _ =>
        bind_eq_none_iff_or fun _ _ =>
    bind_eq_none_iff_or fun _ _ => bind_eq_none_iff_or (p := False) fun _ _ => by simp).trans ?_
  simp only [idOf_eq_none_iff, roleOf_eq_none_iff, classOf_eq_none_iff, yesNoOf_eq_none_iff, rangeOf_eq_none_iff,
    directionPartOf_eq_none_iff, BadWrite, BadId, or_false]
  omega

theorem aimFieldsOf_eq_none_iff (b : List Byte) : aimFieldsOf b = none ↔ BadAim b := by
  refine (bind_eq_none_iff_or fun _ _ => bind_eq_none_iff_or fun _ _ => bind_eq_none_iff_or fun _ _ =>
    bind_eq_none_iff_or (p := False) fun _ _ => by simp).trans ?_
  simp only [idOf_eq_none_iff, faceAskedOf_eq_none_iff, rangeOf_eq_none_iff, optionalLevelOf_eq_none_iff, BadAim, BadId,
    BadCode3, or_false]
  omega

theorem aimDirectionFieldsOf_eq_none_iff (b : List Byte) : aimDirectionFieldsOf b = none ↔ BadAimDirection b := by
  refine (bind_eq_none_iff_or fun _ _ => bind_eq_none_iff_or fun _ _ => bind_eq_none_iff_or fun _ _ =>
    bind_eq_none_iff_or fun _ _ => bind_eq_none_iff_or fun _ _ => bind_eq_none_iff_or fun options given =>
    bind_eq_none_iff_or (p := byteAt b 12 % 2 = 1) fun _ _ => ?_).trans ?_
  · rw [← ((rangeOf_eq_some_iff ..).mp given).1]; split <;> simp_all
  · simp only [angleOf_eq_none_iff, rangeOf_eq_none_iff, faceAskedOf_eq_none_iff, optionalLevelOf_eq_none_iff,
      BadAimDirection, BadCode3]
    omega

/-- R175: the values of a match, by its range. -/
theorem matchOf_eq_none_iff (range day hour minute second : Nat) : matchOf range day hour minute second = none ↔
    5 < range ∨ (1 ≤ range ∧ 59 < second) ∨ (2 ≤ range ∧ 59 < minute) ∨ (3 ≤ range ∧ 23 < hour)
    ∨ (range = 4 ∧ 6 < day) ∨ (range = 5 ∧ (day = 0 ∨ 31 < day)) := by
  rcases range with _ | _ | _ | _ | _ | _ | n
  · simp [matchOf]
  · refine (bind_eq_none_iff_or (p := False) fun _ _ => by simp).trans ?_
    simp only [rangeOf_eq_none_iff, or_false]; omega
  · refine (bind_eq_none_iff_or fun _ _ => bind_eq_none_iff_or (p := False) fun _ _ => by simp).trans ?_
    simp only [rangeOf_eq_none_iff, or_false]; omega
  · refine (bind_eq_none_iff_or fun _ _ => bind_eq_none_iff_or fun _ _ => bind_eq_none_iff_or (p := False)
      fun _ _ => by simp).trans ?_
    simp only [rangeOf_eq_none_iff, or_false]; omega
  · refine (bind_eq_none_iff_or fun _ _ => bind_eq_none_iff_or fun _ _ => bind_eq_none_iff_or fun _ _ =>
      bind_eq_none_iff_or (p := False) fun _ _ => by simp).trans ?_
    simp [rangeOf_eq_none_iff]; omega
  · refine (bind_eq_none_iff_or fun _ _ => bind_eq_none_iff_or fun _ _ => bind_eq_none_iff_or fun _ _ =>
      bind_eq_none_iff_or (p := False) fun _ _ => by simp).trans ?_
    simp [rangeOf_eq_none_iff]; omega
  · simp [matchOf]

theorem roundFieldsOf_eq_none_iff (b : List Byte) : roundFieldsOf b = none ↔ BadRound b := by
  refine (bind_eq_none_iff_or fun _ _ => bind_eq_none_iff_or fun _ _ => bind_eq_none_iff_or fun _ _ =>
    bind_eq_none_iff_or fun _ _ => bind_eq_none_iff_or (p := False) fun _ _ => by simp).trans ?_
  simp only [roundNoOf_eq_none_iff, matchOf_eq_none_iff, portOf_eq_none_iff, levelOf_eq_none_iff, yesNoOf_eq_none_iff,
    BadRound, BadCode3, or_false]
  omega

/-! ### The requests -/

/-- R198 step 3: an immediate request without its fields is refused BAD_VALUE. -/
theorem request_badValue {α : Type} {s : State} {f : Frame} {g : Gate} {ls : List Nat} {fields : Option α}
    {act : State → α → State} (ask : MayAsk s f g ls) (short : ∀ n ∈ ls, n ≤ 60) (bad : fields = none) :
    request s f (immediate g ls) (fun s => withFields s f fields (act s)) = .next (refused s f .badValue) := by
  rw [request_immediate_of_mayAsk _ ask short, bad]; rfl

/-- R198 step 3: a deferred request without its fields is refused BAD_VALUE. -/
theorem request_deferred_badValue {α : Type} {s : State} {f : Frame} {g : Gate} {ls : List Nat} {fields : Option α}
    {act : State → α → State} (ask : MayDefer s f g ls) (short : ∀ n ∈ ls, n ≤ 60) (bad : fields = none) :
    request s f (deferredKind g ls) (fun s => withFields s f fields (act s)) = .next (refused s f .badValue) := by
  rw [request_of_mayDefer _ ask short, bad]; rfl

/-- Settles O11: a body without fields is one with a field out of its range, and is refused. -/
theorem valuesOutOfRangeAreRefused : Obligations.ValuesOutOfRangeAreRefused := by
  refine ⟨fun f s => ⟨fun ask bad => ?_, fun ask bad => ⟨?_, ?_⟩, fun ask bad => ?_, fun ask bad => ?_,
    fun ask bad => ?_, fun ask bad => ?_, fun ask bad => ?_, fun ask bad => ?_, fun ask bad => ?_,
    fun ask bad => ⟨?_, ?_⟩, fun ask bad => ?_, fun ask bad => ?_, fun ask bad => ?_⟩,
    fun b => ⟨readFieldsOf_eq_none_iff b, writeFieldsOf_eq_none_iff b, aimFieldsOf_eq_none_iff b,
      aimDirectionFieldsOf_eq_none_iff b, trackFieldsOf_eq_none_iff b, roundFieldsOf_eq_none_iff b,
      levelFieldsOf_eq_none_iff b⟩⟩
  · exact request_badValue ask (by decide) ((readFieldsOf_eq_none_iff _).mpr bad)
  · exact request_badValue ask (by decide) ((writeFieldsOf_eq_none_iff _).mpr bad)
  · exact request_badValue ask (by decide) ((writeFieldsOf_eq_none_iff _).mpr bad)
  · exact request_badValue ask (by decide) ((idOf_eq_none_iff _).mpr bad)
  · exact request_deferred_badValue ask (by decide) ((aimFieldsOf_eq_none_iff _).mpr bad)
  · exact request_deferred_badValue ask (by decide) ((aimDirectionFieldsOf_eq_none_iff _).mpr bad)
  · exact request_deferred_badValue ask (by decide) ((trackFieldsOf_eq_none_iff _).mpr bad)
  · exact request_badValue ask (by decide) ((angleOf_eq_none_iff _).mpr bad)
  · exact request_deferred_badValue ask (by decide) ((yesNoOf_eq_none_iff _).mpr bad)
  · exact request_badValue ask (by decide) ((roundFieldsOf_eq_none_iff _).mpr bad)
  · exact request_badValue ask (by decide) ((roundNoOf_eq_none_iff _).mpr bad)
  · exact request_badValue ask (by decide) ((roundNoOf_eq_none_iff _).mpr bad)
  · exact request_badValue ask (by decide) ((modeOf_eq_none_iff _).mpr bad)
  · exact request_badValue ask (by decide) ((guestOf_eq_none_iff _).mpr bad)
  · exact request_badValue ask (by decide) ((levelFieldsOf_eq_none_iff _).mpr bad)

end Sys2Proof.Machine
end

section
/-! PROOFS. The solver's rounding and turns (R2, R12, R89, R94). -/

namespace Sys2Proof.Machine

/-! ### Rounding -/

/-- R2 for magnitudes: the quotient of `2 A + B` by `2 B` is within half a divisor of the exact one, and above it at a
half. -/
theorem roundQuotient_bounds {A B : Nat} (h : 0 < B) :
    2 * (((2 * A + B) / (2 * B)) * B) ≤ 2 * A + B ∧ 2 * A < 2 * (((2 * A + B) / (2 * B)) * B) + B := by
  have split := Nat.div_add_mod (2 * A + B) (2 * B)
  have small := Nat.mod_lt (2 * A + B) (show 0 < 2 * B by omega)
  have product : 2 * B * ((2 * A + B) / (2 * B)) = 2 * (((2 * A + B) / (2 * B)) * B) := by
    rw [Nat.mul_assoc, Nat.mul_comm B]
  omega

/-- R2: the rounded quotient times the divisor, with the sign of the dividend. -/
theorem roundDiv_mul (a : Int) {b : Int} (h : b ≠ 0) : roundDiv a b * b
    = if a < 0 then -(((2 * a.natAbs + b.natAbs) / (2 * b.natAbs) * b.natAbs : Nat) : Int)
      else (((2 * a.natAbs + b.natAbs) / (2 * b.natAbs) * b.natAbs : Nat) : Int) := by
  simp only [roundDiv]
  generalize (2 * a.natAbs + b.natAbs) / (2 * b.natAbs) = q
  rcases Int.lt_or_gt_of_ne h with neg | pos
  · have : (b.natAbs : Int) = -b := by omega
    by_cases ha : a < 0
    · simp only [ha, neg, this, Int.natCast_mul, Int.mul_neg, Int.neg_neg]; rfl
    · simp only [ha, neg, this, Int.natCast_mul, Int.mul_neg]; exact Int.neg_mul _ _
  · have absolute : (b.natAbs : Int) = b := by omega
    have : ¬ b < 0 := by omega
    by_cases ha : a < 0
    · simp only [ha, this, absolute, Int.natCast_mul]; exact Int.neg_mul _ _
    · simp only [ha, this, absolute, Int.natCast_mul]; rfl

/-- Settles O6, from the bounds on magnitudes. -/
theorem roundingGoesToNearest : Obligations.RoundingGoesToNearest := by
  intro a b h
  have bounds := roundQuotient_bounds (A := a.natAbs) (B := b.natAbs) (by omega)
  rw [roundDiv_mul a h]
  generalize (2 * a.natAbs + b.natAbs) / (2 * b.natAbs) * b.natAbs = product at bounds
  split <;> omega

/-! ### Turns and moves -/

/-- Settles O8: a turn is the way round to the target where that is no more than half the circle, and the other way
otherwise. -/
theorem turnIsTheShorterWay : Obligations.TurnIsTheShorterWay := by
  refine ⟨fun current target _ _ _ _ => ?_, fun _ _ _ => rfl⟩
  simp only [turn, dev, reduce]
  refine ⟨rfl, ?_⟩
  omega

end Sys2Proof.Machine
end

section
/-! PROOFS. Power-on, the part-wide reset and the wake causes (R45, R46, R191, R195, R208). -/

namespace Sys2Proof.Machine
open Sys2Proof.Claims

/-! ### Power-on -/

/-- Settles O3: the items of `State.reset`, and the state that POWER_ON leaves. -/
theorem resetIsThePowerOnState : Obligations.ResetIsThePowerOnState := by
  refine ⟨fun k => ?_, fun p => ?_, slotAt_reset, rfl, rfl, rfl, rfl, rfl, rfl, rfl, rfl, rfl, fun n => ?_, rfl,
    fun p => ?_, rfl, rfl, rfl, rfl, rfl, rfl, rfl, rfl, rfl, fun s => ⟨encoderAt s.powerOns, encoderAt_wf _, rfl⟩⟩
  · rw [setAt_reset]; exact ⟨fun w => by simp [TableSet.reset], rfl⟩
  · cases p <;> rfl
  · simp [roundAt, State.reset, Round.reset]
  · cases p <;> refine ⟨rfl, rfl, rfl, rfl, rfl, rfl, ?_⟩ <;> decide

/-! ### The part-wide reset -/

/-- R207, R208: a port record after a part-wide reset. -/
theorem resetPortRecord_eq (now : Nat) (q : PortRecord) :
    resetPortRecord now q = { clearPort q with notices := 0b0000000001#10 } := by
  simp [resetPortRecord, addNotice, clearPort, hasBit, pulseAt, withBit, Notice.bit]

theorem portRecord_resetPart (s : State) (p : Port) :
    portRecord (resetPart s) p = resetPortRecord s.elapsed (portRecord s p) := by
  cases p <;> rfl

theorem resetLeaves_resetPart (s : State) : ResetLeaves s (resetPart s) := by
  refine ⟨fun k w => ?_, fun k => ?_, fun p => ?_, fun i => ?_, rfl, rfl, rfl, rfl, rfl, rfl, rfl, rfl, rfl, rfl, rfl,
    rfl, fun n => ?_, fun p => ?_, rfl, rfl, rfl, rfl, rfl, rfl, rfl, rfl, rfl, rfl⟩
  · simp [setAt, resetPart, resetSet]
  · simp [setAt, resetPart, resetSet]
  · cases p <;> rfl
  · simp [slotAt, resetPart]
  · simp only [roundAt, resetPart, Fin.getElem_fin, Vector.getElem_map]; rfl
  · rw [portRecord_resetPart, resetPortRecord_eq]
    exact ⟨rfl, rfl, rfl, rfl, rfl, rfl, rfl, rfl, rfl⟩

theorem portRecord_clockOut_same (s : State) (p : Port) (bytes : List Byte) :
    portRecord (clockOut s p bytes) p = { portRecord s p with out := bytes } := by
  simp [clockOut]

theorem portRecord_clockOut_other (s : State) {p q : Port} (bytes : List Byte) (h : q ≠ p) :
    portRecord (clockOut s p bytes) q = portRecord s q := portRecord_modPort_other _ _ h

/-- The bytes clocked out are no part of what a reset leaves. -/
theorem resetLeaves_clockOut {s t : State} (h : ResetLeaves s t) (p : Port) (bytes : List Byte) :
    ResetLeaves s (clockOut t p bytes) := by
  obtain ⟨ways, order, claims, slots, grant, sequence, drive, attempt, distance, track, power, omega, reference, latest,
    check, state, rounds, ports, rest⟩ := h
  refine ⟨ways, order, claims, slots, grant, sequence, drive, attempt, distance, track, power, omega, reference, latest,
    check, state, rounds, fun q => ?_, rest⟩
  by_cases e : q = p
  · subst e; rw [portRecord_clockOut_same]; exact ports q
  · rw [portRecord_clockOut_other _ _ e]; exact ports q

theorem resetLeaves_discardUnderWay {s t : State} (h : ResetLeaves s t) (p : Port) (bytes : Option Nat) :
    ResetLeaves s (discardUnderWay t p bytes) := by
  cases bytes with
  | none => exact h
  | some n => exact resetLeaves_clockOut h p _

theorem readsBadFrame_discardUnderWay (s : State) (p : Port) (bytes : Option Nat) :
    ReadsBadFrame (discardUnderWay s p bytes) p bytes := by
  rintro n rfl
  exact congrArg PortRecord.out (portRecord_clockOut_same s p _)

theorem portRecord_discardUnderWay_other (s : State) {p q : Port} (bytes : Option Nat) (h : q ≠ p) :
    portRecord (discardUnderWay s p bytes) q = portRecord s q := by
  cases bytes with
  | none => rfl
  | some n => exact portRecord_clockOut_other _ _ h

theorem readsBadFrame_congr {s t : State} {p : Port} {bytes : Option Nat} (h : ReadsBadFrame s p bytes)
    (same : portRecord t p = portRecord s p) : ReadsBadFrame t p bytes := fun n hn => by rw [same]; exact h n hn

/-- Settles O4: the reset of every block, then the bytes of the transactions under way. -/
theorem partWideResetKeepsPins : Obligations.PartWideResetKeepsPins := by
  refine ⟨fun u s => ⟨_, rfl, ?_, fun p => ?_⟩, fun f u s complete port body => ?_⟩
  · exact resetLeaves_discardUnderWay (resetLeaves_discardUnderWay (resetLeaves_discardUnderWay
      (resetLeaves_resetPart s) ..) ..) ..
  · cases p
    · exact readsBadFrame_congr (readsBadFrame_congr (readsBadFrame_discardUnderWay _ _ _)
        (portRecord_discardUnderWay_other _ _ (by decide))) (portRecord_discardUnderWay_other _ _ (by decide))
    · exact readsBadFrame_congr (readsBadFrame_discardUnderWay _ _ _) (portRecord_discardUnderWay_other _ _ (by decide))
    · exact readsBadFrame_discardUnderWay _ _ _
  · refine ⟨takePartReset f u s, ?_, ?_, ?_, ?_, ?_⟩
    · simp [exec, execPartReset, complete, port, body]
    · exact resetLeaves_clockOut (resetLeaves_discardUnderWay (resetLeaves_discardUnderWay
        (resetLeaves_resetPart s) ..) ..) ..
    · rw [takePartReset, port, portRecord_clockOut_same]; rfl
    · rw [takePartReset, port]
      exact readsBadFrame_congr (readsBadFrame_congr (readsBadFrame_discardUnderWay _ _ _)
        (portRecord_discardUnderWay_other _ _ (by decide))) (portRecord_clockOut_other _ _ (by decide))
    · rw [takePartReset, port]
      exact readsBadFrame_congr (readsBadFrame_discardUnderWay _ _ _) (portRecord_clockOut_other _ _ (by decide))

/-! ### Wake causes -/

theorem takeWakeCause_of_rest {s : State} (cause : WakeCause) (power : s.power = .rest) (drive : s.drive = .off) :
    takeWakeCause s cause = { s with power := .waking (s.elapsed + 640 * s.settings.settleDelay)
                                       (BitVec.ofNat 6 (2 ^ cause.bit)), drive := .settling } := by
  simp [takeWakeCause, power, driveWake, drive, unitsOfMs, withBit]

theorem takeWakeCause_of_waking {s : State} (cause : WakeCause) {d : Nat} {causes : Mask 6}
    (power : s.power = .waking d causes) :
    takeWakeCause s cause = { s with power := .waking d (causes ||| BitVec.ofNat 6 (2 ^ cause.bit)) } := by
  simp [takeWakeCause, power, withBit]

theorem takeWakeCause_of_run {s : State} {cause : WakeCause} {d : Option Nat} (power : s.power = .run d)
    (keeps : d = none ∨ restartsIdle cause = false) : takeWakeCause s cause = s := by
  cases d with
  | none => simp [takeWakeCause, power]
  | some d => simp [takeWakeCause, power, keeps.resolve_left nofun]

theorem takeWakeCause_restarts {s : State} {cause : WakeCause} {d : Nat} (power : s.power = .run (some d))
    (restarts : restartsIdle cause = true) (rests : s.settings.idleRest ≠ 0) :
    takeWakeCause s cause = { s with power := .run (some (s.elapsed + 640000 * s.settings.idleRest)) } := by
  simp [takeWakeCause, power, restarts, idleDeadlineFrom, rests, unitsOfSeconds]

/-- Settles O5: a wake cause by the power state it meets, and the WAKE line's passages. -/
theorem wakeCausesAreTaken : Obligations.WakeCausesAreTaken := by
  refine ⟨fun s released => ?_, fun s asserted => ?_, fun s => rfl, fun s cause => ⟨takeWakeCause_of_rest cause,
    fun d causes => takeWakeCause_of_waking cause, fun power => takeWakeCause_of_run power (.inl rfl),
    fun d power request line => takeWakeCause_of_run power (.inr ?_), fun d power restarts => ?_⟩⟩
  · simp [exec, execWakeLineAssert, released]
  · simp [exec, execWakeLineAssert, asserted]
  · cases cause <;> first | rfl | contradiction
  · exact takeWakeCause_restarts power (by rcases restarts with rfl | rfl <;> rfl)

end Sys2Proof.Machine
end

section
/-! PROOFS. What a port keeps and gives back: records, notices and reads (R79, R80, R142, R200 to R203, R211). -/

namespace Sys2Proof.Machine
open Sys2Proof.Claims

/-! ### A record set at a port -/

theorem modPort_eq_setPort (s : State) (p : Port) (f : PortRecord → PortRecord) :
    modPort s p f = setPort s p (f (portRecord s p)) := rfl

@[simp] theorem setPort_portRecord (s : State) (p : Port) : setPort s p (portRecord s p) = s := by
  cases p <;> rfl

@[simp] theorem setPort_setPort (s : State) (p : Port) (q r : PortRecord) :
    setPort (setPort s p q) p r = setPort s p r := by
  cases p <;> rfl

@[simp] theorem portRecord_setPort_same (s : State) (p : Port) (q : PortRecord) : portRecord (setPort s p q) p = q := by
  cases p <;> rfl

theorem portRecord_setPort_other (s : State) {p r : Port} (q : PortRecord) (h : r ≠ p) :
    portRecord (setPort s p q) r = portRecord s r := portRecord_modPort_other s (fun _ => q) h

/-! ### Records appended and held -/

/-- R203: the pulse that an event starts or prolongs. -/
theorem pulseAt_eq (now : Nat) (q : PortRecord) :
    pulseAt now q = { q with pulse := if q.mode = .pulse then some (now + 32) else q.pulse } := by
  obtain ⟨_, _, _, _, _, mode, _⟩ := q
  cases mode <;> rfl

theorem appendReply_eq (s : State) (p : Port) (r : Reply) : appendReply s p r = setPort s p { portRecord s p with
    replies := (portRecord s p).replies ++ [r],
    pulse := if (portRecord s p).mode = .pulse then some (s.elapsed + 32) else (portRecord s p).pulse } := by
  rw [appendReply, modPort_eq_setPort, pulseAt_eq]

theorem hasRoom_iff (s : State) (p : Port) :
    hasRoom s p = true ↔ (portRecord s p).replies.length < 8 ∧ (portRecord s p).held = [] := by
  simp [hasRoom]

theorem postReply_of_room {s : State} {p : Port} (r : Reply) (deferred : Bool)
    (short : (portRecord s p).replies.length < 8)
    (none : (portRecord s p).held = []) : postReply s p r deferred = appendReply s p r :=
  if_pos ((hasRoom_iff s p).2 ⟨short, none⟩)

theorem postReply_of_full {s : State} {p : Port} (r : Reply) (deferred : Bool)
    (full : 8 ≤ (portRecord s p).replies.length ∨ (portRecord s p).held ≠ []) : postReply s p r deferred
      = setPort s p { portRecord s p with held := (portRecord s p).held ++ [.record r deferred] } := by
  refine if_neg fun h => ?_
  obtain ⟨short, none⟩ := (hasRoom_iff s p).1 h
  rcases full with full | full
  · omega
  · exact full none

/-! ### Notices -/

theorem addNotice_of_present {q : PortRecord} {k : Notice} (now : Nat) (h : q.notices.getLsbD k.bit = true) :
    addNotice now k q = q := if_pos h

theorem addNotice_of_absent {q : PortRecord} {k : Notice} (now : Nat) (h : q.notices.getLsbD k.bit = false) :
    addNotice now k q = { q with notices := withBit q.notices k.bit,
                                 pulse := if q.mode = .pulse then some (now + 32) else q.pulse } := by
  rw [addNotice, if_neg (by simp [hasBit, h]), pulseAt_eq]

theorem Notice.bit_injective : ∀ j k : Notice, j.bit = k.bit → j = k := by
  intro j k h
  cases j <;> cases k <;> first | rfl | simp [Notice.bit] at h

theorem Notice.bit_lt (k : Notice) : k.bit < 10 := by cases k <;> decide

/-- A set with one choice added holds that choice and those it held. -/
theorem getLsbD_withBit {n : Nat} (m : Mask n) {k : Nat} (h : k < n) (j : Nat) :
    (withBit m k).getLsbD j = true ↔ m.getLsbD j = true ∨ j = k := by
  simp only [withBit, BitVec.getLsbD_or, BitVec.getLsbD_ofNat, Nat.testBit_two_pow, Bool.or_eq_true, Bool.and_eq_true,
    decide_eq_true_eq]
  constructor
  · rintro (held | ⟨_, rfl⟩)
    · exact .inl held
    · exact .inr rfl
  · rintro (held | rfl)
    · exact .inl held
    · exact .inr ⟨h, rfl⟩

theorem notices_addNotice (now : Nat) (k : Notice) (q : PortRecord) (j : Notice) :
    (addNotice now k q).notices.getLsbD j.bit = true ↔ q.notices.getLsbD j.bit = true ∨ j = k := by
  by_cases present : q.notices.getLsbD k.bit = true
  · rw [addNotice_of_present now present]
    refine ⟨.inl, ?_⟩
    rintro (held | rfl)
    · exact held
    · exact present
  · rw [addNotice_of_absent now (by simpa using present), getLsbD_withBit _ k.bit_lt]
    exact or_congr_right ⟨Notice.bit_injective j k, congrArg _⟩

theorem portRecord_notifyAll (s : State) (k : Notice) (p : Port) :
    portRecord (notifyAll s k) p = addNotice s.elapsed k (portRecord s p) := by
  cases p <;> rfl

/-- Settles O12, from the equations of an appended record and of an added notice. -/
theorem recordsGoBehind : Obligations.RecordsGoBehind := by
  refine ⟨fun s p r deferred => ⟨appendReply_eq s p r, postReply_of_room r deferred, postReply_of_full r deferred⟩,
    fun s p k => ⟨fun present => ?_, fun absent => ?_, fun j => ?_, ?_, rfl⟩, rfl⟩
  · rw [notify, modPort_eq_setPort, addNotice_of_present _ present, setPort_portRecord]
  · rw [notify, modPort_eq_setPort, addNotice_of_absent _ absent, portRecord_setPort_same]
  · rw [notify, portRecord_modPort_same, notices_addNotice]
  · rw [portRecord_notifyAll, notify, portRecord_modPort_same]

/-! ### Reads -/

theorem replyStream_length (r : Reply) : (replyStream r).length = 5 + r.body.length := by
  simp [replyStream, u8]; omega

theorem fixStream_length (x : Fix) (overrun : Nat) : (fixStream x overrun).length = 36 := by
  obtain ⟨epoch, state, readings, direction, residual, distance⟩ := x
  cases epoch <;> cases direction <;> cases distance <;> rfl

theorem clockedBytes_short {stream : List Byte} {n : Nat} (h : n < stream.length) :
    clockedBytes stream n = stream.take n := by
  simp [clockedBytes, Nat.sub_eq_zero_of_le (Nat.le_of_lt h)]

theorem clockedBytes_whole {stream : List Byte} {n : Nat} (h : stream.length ≤ n) :
    clockedBytes stream n = stream ++ List.replicate (n - stream.length) 0x00#8 := by
  rw [clockedBytes, List.take_of_length_le h]

/-- R201: a reply-read of a whole record, before a held one takes the place. -/
theorem replyRead_whole {s : State} {p : Port} {n : Nat} {r : Reply} {rest : List Reply}
    (queue : (portRecord s p).replies = r :: rest) (whole : 5 + r.body.length ≤ n) :
    replyRead s p n = appendHeld (setPort s p { portRecord s p with
      out := replyStream r ++ List.replicate (n - (5 + r.body.length)) 0x00#8, replies := rest }) p := by
  have length := replyStream_length r
  simp only [replyRead, queue, length, whole, if_true, dropOldest, clockOut, modPort_eq_setPort,
      portRecord_setPort_same,
    setPort_setPort, clockedBytes_whole (length ▸ whole), List.tail_cons]

theorem appendHeld_nil {s : State} {p : Port} (h : (portRecord s p).held = []) : appendHeld s p = s := by
  simp [appendHeld, h]

theorem appendHeld_record {s : State} {p : Port} {r : Reply} {d : Bool} {others : List Held}
    (h : (portRecord s p).held = .record r d :: others) :
    appendHeld s p = appendReply (setPort s p { portRecord s p with held := others }) p r := by
  simp only [appendHeld, h]; rfl

theorem appendHeld_aim {s : State} {p : Port} {i : SlotNo} {a : Aim} {r : Reply} {others : List Held}
    (h : (portRecord s p).held = .aim i :: others) (slot : slotAt s i = some a) (state : a.state = .doneHeld r) :
    appendHeld s p
      = afterEvent (putSlot (appendReply (setPort s p { portRecord s p with held := others }) p r) i none) := by
  have same : slotAt (modPort s p (fun q => { q with held := others })) i = some a := slot
  simp only [appendHeld, h, same, appendHeldAim, state]; rfl

/-- The record of a held list's oldest member in the place of the one read. -/
theorem appendReply_refilled {s : State} {p : Port} (r : Reply) (rest : List Reply) (h : Reply) (others : List Held)
    (n : Nat) :
    appendReply (setPort s p { portRecord s p with
      out := replyStream r ++ List.replicate (n - (5 + r.body.length)) 0x00#8, replies := rest, held := others }) p h
      = refilled s p r rest h others n := by
  rw [appendReply_eq, portRecord_setPort_same, setPort_setPort]; rfl

theorem replyRead_short {s : State} {p : Port} {n : Nat} {r : Reply} {rest : List Reply}
    (queue : (portRecord s p).replies = r :: rest) (short : n < 5 + r.body.length) :
    replyRead s p n = clockOut s p ((replyStream r).take n) := by
  have length := replyStream_length r
  simp [replyRead, queue, length, Nat.not_le.2 short, clockedBytes_short (length.symm ▸ short)]

theorem fixRead_short {s : State} {p : Port} {n : Nat} {x : Fix} (slot : (portRecord s p).fix = some x)
    (short : n < 36) :
    fixRead s p n = clockOut s p ((fixStream x (portRecord s p).overrun).take n) := by
  have length := fixStream_length x (portRecord s p).overrun
  simp [fixRead, slot, length, Nat.not_le.2 short, clockedBytes_short (length.symm ▸ short)]

theorem fixRead_whole {s : State} {p : Port} {n : Nat} {x : Fix} (slot : (portRecord s p).fix = some x)
    (whole : 36 ≤ n) :
    fixRead s p n = setPort s p { portRecord s p with
      out := fixStream x (portRecord s p).overrun ++ List.replicate (n - 36) 0x00#8, fix := none, overrun := 0 } := by
  have length := fixStream_length x (portRecord s p).overrun
  simp only [fixRead, slot, length, whole, if_true, clockOut, modPort_eq_setPort, portRecord_setPort_same,
      setPort_setPort,
    clockedBytes_whole (length ▸ whole)]

/-- Settles O13: a read of a whole record, of a part of one, and of nothing. -/
theorem readsTakeTheOldest : Obligations.ReadsTakeTheOldest := by
  intro p n s
  refine ⟨fun empty => ?_, fun r rest queue short => ?_, fun r rest queue whole none => ?_,
    fun r rest h d others queue whole held => ?_, fun r rest i a h others queue whole held slot state => ?_,
    fun empty => ?_, fun x slot short => ?_, fun x slot whole => ?_⟩ <;>
    simp only [exec, execReplyRead, execFixRead]
  · simp only [replyRead, empty]; rfl
  · rw [replyRead_short queue short]; rfl
  · rw [replyRead_whole queue whole, appendHeld_nil (by simpa using none)]
  · rw [replyRead_whole queue whole, appendHeld_record (by simpa using held), portRecord_setPort_same, setPort_setPort,
      appendReply_refilled]
  · rw [replyRead_whole queue whole, appendHeld_aim (by simpa using held) (by exact slot) state,
      portRecord_setPort_same,
      setPort_setPort, appendReply_refilled]
  · simp only [fixRead, empty]; rfl
  · rw [fixRead_short slot short]; rfl
  · rw [fixRead_whole slot whole]

end Sys2Proof.Machine
end

section
/-! PROOFS. The requests of the target table (R27 to R38, R49 to R55). -/

namespace Sys2Proof.Machine
open Sys2Proof.Claims

/-! ### The table as the taking of a frame leaves it -/

@[simp] theorem locate_taken (s : State) (f : Frame) (id : Nat) : locate (taken s f) id = locate s id := rfl

@[simp] theorem setAt_taken (s : State) (f : Frame) (k : Fin 32) : setAt (taken s f) k = setAt s k := rfl

@[simp] theorem claim_taken (s : State) (f : Frame) (p : Port) : claim (taken s f) p = claim s p := rfl

@[simp] theorem useCount_taken (s : State) (f : Frame) (id : Nat) : useCount (taken s f) id = useCount s id := rfl

/-! ### An entry moved to most recent (R28) -/

theorem storeEntry_self {s : State} {k : Fin 32} {w : Fin 4} {e : Entry} (held : (setAt s k).ways[w] = some e) :
    storeEntry s k w e = putSet s k { ways := (setAt s k).ways, order := w :: (setAt s k).order.erase w } := by
  have same : (setAt s k).ways.set w (some e) = (setAt s k).ways := by rw [← held]; exact Vector.set_getElem_self _
  simp [storeEntry, same, toFront]

theorem touchEntry_of_located {s : State} {id : Nat} {w : Fin 4} {e : Entry} (h : locate s id = some (w, e)) :
    touchEntry s id = putSet s (setOf id)
      { ways := (setAt s (setOf id)).ways, order := w :: (setAt s (setOf id)).order.erase w } := by
  have held := (locate_eq_some h).1
  simp only [touchEntry, updateEntry, h]
  exact storeEntry_self held

/-! ### READ_TARGET -/

theorem readFieldsOf_of_range {b : List Byte} (low : 1 ≤ word16At b 0) (high : word16At b 0 ≤ 65534)
    (bit : byteAt b 2 ≤ 1) :
    readFieldsOf b = some (word16At b 0, decide (byteAt b 2 = 1)) := by
  simp [readFieldsOf, idOf_of_range low high, (rangeOf_eq_some_iff ..).mpr ⟨rfl, Nat.zero_le _, bit⟩]

theorem exec_readTarget_of_mayAsk {s : State} {f : Frame} {x : Nat × Bool} (ask : MayAsk s f (.group .tableRead) [3])
    (fields : readFieldsOf f.body = some x) : exec (.readTarget f) s = .next (readTarget (taken s f) f x.1 x.2) := by
  refine (request_immediate_of_mayAsk _ ask (by decide)).trans ?_
  rw [fields]; rfl

theorem reserve_of_no_wait {s : State} {p : Port} (id : Nat) (h : (claim s p).wait = none) :
    reserve s p id = putClaim s p { reservation := some id, wait := none } := by
  simp [reserve, h]

theorem reserve_of_wait {s : State} {p : Port} (id : Nat) {tag : Byte} {old : Nat} (wait : (claim s p).wait = some tag)
    (reserved : (claim s p).reservation = some old) : reserve s p id
      = postReply (putClaim s p { reservation := some id, wait := none }) p (changeReply tag old .replaced) true := by
  simp [reserve, wait, reserved]

/-- R33: a read moves the entry and answers before it reserves, so the claims are those the request found. -/
theorem claim_answer_touchEntry (s : State) (f : Frame) (id : Nat) (body : List Byte) (p : Port) :
    claim (answer (touchEntry s id) f body) p = claim s p := by
  simp [claim]

/-- Settles O14, from the equations of `readTarget`, `reserve` and `touchEntry`. -/
theorem readTargetReportsAndReserves : Obligations.ReadTargetReportsAndReserves := by
  refine ⟨fun f s ask low high bit => ?_, fun s id way e located => ?_⟩
  · have run := exec_readTarget_of_mayAsk ask (readFieldsOf_of_range low high bit)
    refine ⟨fun absent => ?_, fun way e located => ⟨fun plain => ?_, fun reserving none => ?_,
      fun tag old reserving wait reserved => ?_⟩⟩ <;> rw [run]
    · simp only [readTarget, locate_taken, absent]; rfl
    · simp only [readTarget, locate_taken, located, plain]; rfl
    · simp only [readTarget, locate_taken, located, reserving, decide_true, if_true]
      rw [reserve_of_no_wait _ (by rw [claim_answer_touchEntry]; exact none)]; rfl
    · simp only [readTarget, locate_taken, located, reserving, decide_true, if_true]
      rw [reserve_of_wait _ (by rw [claim_answer_touchEntry]; exact wait)
          (by rw [claim_answer_touchEntry]; exact reserved)]
      rfl
  · rw [touchEntry_of_located located]
    exact ⟨setAt_putSet_same .., fun k h => setAt_putSet_other _ _ h, rfl⟩

/-! ### The victim of an insertion (R31) -/

theorem leastRecent_eq_some {t : TableSet} {test : Option Entry → Bool} {w : Fin 4} (h : leastRecent t test = some w) :
    LeastRecentOf t test w := by
  obtain ⟨passes, after, before, order, none⟩ := List.find?_eq_some_iff_append.mp h
  refine ⟨passes, before.reverse, after.reverse, ?_, fun v hv => by simpa using none v (List.mem_reverse.mp hv)⟩
  rw [← List.reverse_reverse t.order, order]; simp

theorem leastRecent_eq_none {t : TableSet} (whole : ∀ w, w ∈ t.order) (test : Option Entry → Bool) :
    leastRecent t test = none ↔ ∀ w : Fin 4, test t.ways[w] = false := by
  simp only [leastRecent, List.find?_eq_none, List.mem_reverse, Bool.not_eq_true]
  exact ⟨fun h w => h w (whole w), fun h w _ => h w⟩

theorem any_displaceable (s : State) (c : EntryClass) :
    (fun e => Option.any (displaceable s c) e) = displaceableOf s c := by
  funext e
  cases e <;> rfl

theorem victimOf_eq (s : State) (t : TableSet) (c : EntryClass) : victimOf s t c
    = (leastRecent t (fun e => e.isNone)).or ((leastRecent t (displaceableOf s .transient)).or
        (if c = .retained then leastRecent t (displaceableOf s .retained) else none)) := by
  simp only [victimOf, any_displaceable]

theorem victimOf_eq_some {s : State} {t : TableSet} {c : EntryClass} {w : Fin 4} (whole : ∀ w, w ∈ t.order)
    (h : victimOf s t c = some w) : LeastRecentOf t (fun e => e.isNone) w
      ∨ ((∀ v : Fin 4, (t.ways[v]).isNone = false) ∧ LeastRecentOf t (displaceableOf s .transient) w)
      ∨ ((∀ v : Fin 4, (t.ways[v]).isNone = false) ∧ (∀ v : Fin 4, displaceableOf s .transient t.ways[v] = false)
          ∧ c = .retained ∧ LeastRecentOf t (displaceableOf s .retained) w) := by
  rw [victimOf_eq, Option.or_eq_some_iff, Option.or_eq_some_iff, leastRecent_eq_none whole,
      leastRecent_eq_none whole] at h
  rcases h with invalid | ⟨valid, transient | ⟨kept, retained⟩⟩
  · exact .inl (leastRecent_eq_some invalid)
  · exact .inr (.inl ⟨valid, leastRecent_eq_some transient⟩)
  · split at retained
    · next cls => exact .inr (.inr ⟨valid, kept, cls, leastRecent_eq_some retained⟩)
    · cases retained

theorem victimOf_eq_none {s : State} {t : TableSet} {c : EntryClass} (whole : ∀ w, w ∈ t.order) :
    victimOf s t c = none ↔ (∀ v : Fin 4, (t.ways[v]).isNone = false)
      ∧ (∀ v : Fin 4, displaceableOf s .transient t.ways[v] = false)
      ∧ (c = .retained → ∀ v : Fin 4, displaceableOf s .retained t.ways[v] = false) := by
  rw [victimOf_eq, Option.or_eq_none_iff, Option.or_eq_none_iff, leastRecent_eq_none whole, leastRecent_eq_none whole]
  by_cases cls : c = .retained <;> simp [cls, leastRecent_eq_none whole]

/-! ### Writing -/

theorem exec_writeTarget_of_mayAsk {s : State} {f : Frame} {w : WriteFields}
    (ask : MayAsk s f (.group .tableWrite) [11, 19])
    (fields : writeFieldsOf f.body = some w) : exec (.writeTarget f) s = .next (writeTarget (taken s f) f w) := by
  refine (request_immediate_of_mayAsk _ ask (by decide)).trans ?_
  rw [fields]; rfl

theorem exec_writeIfReserved_of_mayAsk {s : State} {f : Frame} {w : WriteFields}
    (ask : MayAsk s f (.group .tableWrite) [11, 19]) (fields : writeFieldsOf f.body = some w) :
    exec (.writeTargetIfReserved f) s = .next (writeIfReserved (taken s f) f w) := by
  refine (request_immediate_of_mayAsk _ ask (by decide)).trans ?_
  rw [fields]; rfl

theorem overPinned_iff (s : State) (w : WriteFields) : overPinned s w = true ↔ pinLimitMet s w := by
  rw [overPinned, Bool.and_eq_true]
  exact and_congr_right fun _ => decide_eq_true_iff

theorem rewrittenEntry_eq (w : WriteFields) (e : Entry) : rewrittenEntry w e = rewritten w e := by
  cases h : w.direction <;> simp [rewrittenEntry, rewritten, storedPinned, h]

theorem writeTarget_absent {s : State} {f : Frame} {w : WriteFields} (h : locate s w.id = none) :
    writeTarget s f w = writeAbsent s f w := by
  simp [writeTarget, h]

theorem writeTarget_present {s : State} {f : Frame} {w : WriteFields} {way : Fin 4} {e : Entry}
    (h : locate s w.id = some (way, e)) : writeTarget s f w = writePresent s f w way e := by
  simp [writeTarget, h]

theorem writePresent_of_limit {s : State} {f : Frame} {w : WriteFields} (way : Fin 4) (e : Entry)
    (h : pinLimitMet s w) :
    writePresent s f w way e = refuse s f .setFull := if_pos ((overPinned_iff s w).mpr h)

theorem writePresent_of_room {s : State} {f : Frame} {w : WriteFields} (way : Fin 4) (e : Entry)
    (h : ¬ pinLimitMet s w) :
    writePresent s f w way e = rewriteEntry s f w way e := if_neg ((not_congr (overPinned_iff s w)).mpr h)

theorem writeAbsent_of_limit {s : State} {f : Frame} {w : WriteFields} {d : Direction}
    (direction : w.direction = some d) (h : pinLimitMet s w) : writeAbsent s f w = refuse s f .setFull := by
  simp [writeAbsent, direction, (overPinned_iff s w).mpr h]

theorem writeAbsent_of_room {s : State} {f : Frame} {w : WriteFields} {d : Direction} (direction : w.direction = some d)
    (h : ¬ pinLimitMet s w) : writeAbsent s f w = match victimOf s (setAt s (setOf w.id)) w.cls with
      | none => refuse s f .setFull
      | some way => insertEntry s f w d way := by
  simp only [writeAbsent, direction, (not_congr (overPinned_iff s w)).mpr h]; rfl

/-- R32: an insertion, its reply and the report of what it evicts. -/
theorem insertEntry_eq (s : State) (f : Frame) (w : WriteFields) (d : Direction) (way : Fin 4) : insertEntry s f w d way
    = reportOf (answer (storeEntry s (setOf w.id) way (newEntry w d f.port)) f
        (writeBody 1 (setOf w.id).val way (newEntry w d f.port) (((setAt s (setOf w.id)).ways[way]).map (·.id))))
      (((setAt s (setOf w.id)).ways[way]).map (·.id)) .evicted := by
  simp only [insertEntry, reportOf]
  cases ((setAt s (setOf w.id)).ways[way]).map (·.id) <;> rfl

/-- R37: a rewrite, its reply and its report. -/
theorem rewriteEntry_eq (s : State) (f : Frame) (w : WriteFields) (way : Fin 4) (e : Entry) : rewriteEntry s f w way e
    = reportModification (answer (storeEntry s (setOf w.id) way (rewritten w e)) f
        (writeBody 2 (setOf w.id).val way (rewritten w e) none)) w.id .written := by
  simp only [rewriteEntry, rewrittenEntry_eq]

/-- Settles O16: the equation of an insertion, and the victims by the three rules. -/
theorem insertTakesTheVictim : Obligations.InsertTakesTheVictim := by
  refine ⟨fun f s w d way ask fields direction absent room victim => ?_,
    fun s t c whole => ⟨fun w => victimOf_eq_some whole, victimOf_eq_none whole⟩⟩
  have victim : victimOf (taken s f) (setAt (taken s f) (setOf w.id)) w.cls = some way := victim
  rw [exec_writeTarget_of_mayAsk ask fields, writeTarget_absent (by exact absent),
      writeAbsent_of_room direction (by exact room),
    victim]
  exact congrArg _ (insertEntry_eq ..)

/-- Settles O17: the plain and the conditional write of a present ID. -/
theorem rewriteKeepsTheWay : Obligations.RewriteKeepsTheWay := by
  intro f s w way e ask fields located room
  have wrote : writePresent (taken s f) f w way e = rewriteEntry (taken s f) f w way e :=
      writePresent_of_room way e room
  refine ⟨?_, fun reserved => ?_⟩
  · rw [exec_writeTarget_of_mayAsk ask fields, writeTarget_present (by exact located), wrote, rewriteEntry_eq]; rfl
  · rw [exec_writeIfReserved_of_mayAsk ask fields]
    simp only [writeIfReserved, claim_taken, reserved, locate_taken, located, if_true, wrote, rewriteEntry_eq]; rfl

/-- Settles O18: the refusals of a write, in the order of R35's checks. -/
theorem writeRefusalsChangeNothing : Obligations.WriteRefusalsChangeNothing := by
  intro f s w ask fields
  rw [exec_writeTarget_of_mayAsk ask fields, exec_writeIfReserved_of_mayAsk ask fields]
  refine ⟨fun absent none => ?_, fun limit asked => ?_, fun absent given noVictim => ?_, fun other => ?_,
    fun reserved present limit => ?_⟩
  · rw [writeTarget_absent (by exact absent)]; simp only [writeAbsent, none]; rfl
  · cases located : locate s w.id with
    | some x => rw [writeTarget_present (by exact located), writePresent_of_limit _ _ (by exact limit)]; rfl
    | none =>
      obtain ⟨d, direction⟩ := Option.ne_none_iff_exists'.mp (asked.resolve_left (fun h => h located))
      rw [writeTarget_absent (by exact located), writeAbsent_of_limit direction (by exact limit)]; rfl
  · obtain ⟨d, direction⟩ := Option.ne_none_iff_exists'.mp given
    have noVictim : victimOf (taken s f) (setAt (taken s f) (setOf w.id)) w.cls = none := noVictim
    rw [writeTarget_absent (by exact absent)]
    by_cases limit : pinLimitMet s w
    · rw [writeAbsent_of_limit direction (by exact limit)]; rfl
    · rw [writeAbsent_of_room direction (by exact limit), noVictim]; rfl
  · simp only [writeIfReserved, claim_taken, other, if_false]; rfl
  · obtain ⟨x, located⟩ := Option.ne_none_iff_exists'.mp present
    have full : writePresent (taken s f) f w x.1 x.2 = refuse (taken s f) f .setFull := writePresent_of_limit _ _ limit
    simp only [writeIfReserved, claim_taken, reserved, locate_taken, located, if_true, full]; rfl

/-! ### FORGET_TARGET -/

theorem exec_forgetTarget_of_mayAsk {s : State} {f : Frame} (ask : MayAsk s f (.group .tableWrite) [2])
    (low : 1 ≤ word16At f.body 0) (high : word16At f.body 0 ≤ 65534) :
    exec (.forgetTarget f) s = .next (forgetTarget (taken s f) f (word16At f.body 0)) := by
  refine (request_immediate_of_mayAsk _ ask (by decide)).trans ?_
  rw [idOf_of_range low high]; rfl

/-- Settles O19: the four cases of `forgetTarget`. -/
theorem forgetDropsUnusedEntry : Obligations.ForgetDropsUnusedEntry := by
  intro f s ask low high
  rw [exec_forgetTarget_of_mayAsk ask low high]
  refine ⟨fun absent => ?_, fun way e located => ⟨fun pinned => ?_, fun loose used => ?_, fun loose unused => ?_⟩⟩
  · simp only [forgetTarget, locate_taken, absent]; rfl
  · simp only [forgetTarget, locate_taken, located, pinned]; rfl
  · simp only [forgetTarget, locate_taken, located, loose, useCount_taken, used]; rfl
  · simp only [forgetTarget, locate_taken, located, loose, useCount_taken, unused]; rfl

/-! ### Modification reports and waits -/

theorem portRecord_hold_same (s : State) (p : Port) (h : Held) :
    portRecord (hold s p h) p = { portRecord s p with held := (portRecord s p).held ++ [h] } := by
  simp [hold]

/-- R79: what becomes of a record depends on its port's record and on the elapsed time alone. -/
theorem portRecord_postReply_congr {s t : State} {p : Port} (r : Reply) (d : Bool)
    (record : portRecord t p = portRecord s p) (time : t.elapsed = s.elapsed) :
    portRecord (postReply t p r d) p = portRecord (postReply s p r d) p := by
  have room : hasRoom t p = hasRoom s p := by simp only [hasRoom, record]
  simp only [postReply, room]
  split
  · simp only [appendReply, portRecord_modPort_same, record, time]
  · simp only [portRecord_hold_same, record]

theorem portRecord_postReply_other (s : State) {p q : Port} (r : Reply) (d : Bool) (h : q ≠ p) :
    portRecord (postReply s p r d) q = portRecord s q := by
  unfold postReply; split
  · exact portRecord_modPort_other _ _ h
  · exact portRecord_modPort_other _ _ h

theorem breakClaim_of_other {s : State} {p : Port} {id : Nat} (cause : ChangeCause)
    (h : (claim s p).reservation ≠ some id) :
    breakClaim s p id cause = s := if_neg h

theorem breakClaim_of_no_wait {s : State} {p : Port} {id : Nat} (cause : ChangeCause)
    (reserved : (claim s p).reservation = some id) (noWait : (claim s p).wait = none) :
    breakClaim s p id cause = putClaim s p { reservation := none, wait := none } := by
  simp [breakClaim, reserved, noWait]

theorem breakClaim_of_wait {s : State} {p : Port} {id : Nat} {tag : Byte} (cause : ChangeCause)
    (reserved : (claim s p).reservation = some id) (wait : (claim s p).wait = some tag) : breakClaim s p id cause
      = postReply (putClaim s p { reservation := none, wait := none }) p (changeReply tag id cause) true := by
  simp [breakClaim, reserved, wait]

/-- R51: from `s` to `t` a modification report has been taken at port `p`. -/
def BrokenAt (s t : State) (p : Port) (id : Nat) (cause : ChangeCause) : Prop :=
  ((claim s p).reservation = some id → claim t p = { reservation := none, wait := none })
  ∧ ((claim s p).reservation ≠ some id → claim t p = claim s p ∧ portRecord t p = portRecord s p)
  ∧ ((claim s p).reservation = some id → (claim s p).wait = none → portRecord t p = portRecord s p)
  ∧ (∀ tag, (claim s p).reservation = some id → (claim s p).wait = some tag →
      portRecord t p = portRecord (postReply s p (changeReply tag id cause) true) p)

theorem brokenAt_breakClaim (s : State) (p : Port) (id : Nat) (cause : ChangeCause) :
    BrokenAt s (breakClaim s p id cause) p id cause := by
  refine ⟨fun reserved => ?_, fun other => ?_, fun reserved noWait => ?_, fun tag reserved wait => ?_⟩
  · cases wait : (claim s p).wait with
    | none => rw [breakClaim_of_no_wait cause reserved wait, claim_putClaim_same]
    | some tag =>
      rw [breakClaim_of_wait cause reserved wait]
      simp [claim, putClaim]
  · rw [breakClaim_of_other cause other]; exact ⟨rfl, rfl⟩
  · rw [breakClaim_of_no_wait cause reserved noWait]; rfl
  · rw [breakClaim_of_wait cause reserved wait]; exact portRecord_postReply_congr _ _ rfl rfl

/-- A report taken at one port is nothing to another. -/
theorem breakClaim_other (s : State) {p q : Port} (id : Nat) (cause : ChangeCause) (h : q ≠ p) :
    claim (breakClaim s p id cause) q = claim s q ∧ portRecord (breakClaim s p id cause) q = portRecord s q := by
  by_cases reserved : (claim s p).reservation = some id
  · cases wait : (claim s p).wait with
    | none => rw [breakClaim_of_no_wait cause reserved wait]; exact ⟨claim_putClaim_other _ _ h, rfl⟩
    | some tag =>
      rw [breakClaim_of_wait cause reserved wait, portRecord_postReply_other _ _ _ h]
      exact ⟨by simpa [claim] using claim_putClaim_other s _ h, rfl⟩
  · rw [breakClaim_of_other cause reserved]; exact ⟨rfl, rfl⟩

theorem brokenAt_congr {s s' t t' : State} {p : Port} {id : Nat} {cause : ChangeCause} (h : BrokenAt s t p id cause)
    (before : claim s' p = claim s p ∧ portRecord s' p = portRecord s p) (time : s'.elapsed = s.elapsed)
    (after : claim t' p = claim t p ∧ portRecord t' p = portRecord t p) : BrokenAt s' t' p id cause := by
  obtain ⟨claims, records⟩ := before
  simp only [BrokenAt, claims, records, after.1, after.2, portRecord_postReply_congr _ _ records time]
  exact h

theorem brokenAt_reportModification (s : State) (id : Nat) (cause : ChangeCause) (p : Port) :
    BrokenAt s (reportModification s id cause) p id cause := by
  have a {q : Port} (h : q ≠ .a) := breakClaim_other s id cause h
  have b {q : Port} (h : q ≠ .b) := breakClaim_other (breakClaim s .a id cause) id cause h
  have c {q : Port} (h : q ≠ .c) := breakClaim_other (breakClaim (breakClaim s .a id cause) .b id cause) id cause h
  cases p with
  | a =>
    refine brokenAt_congr (brokenAt_breakClaim s .a id cause) ⟨rfl, rfl⟩ rfl ?_
    exact ⟨(c (by decide)).1.trans (b (by decide)).1, (c (by decide)).2.trans (b (by decide)).2⟩
  | b =>
    refine brokenAt_congr (brokenAt_breakClaim _ .b id cause) ?_ (by simp) (c (by decide))
    exact ⟨(a (by decide)).1.symm, (a (by decide)).2.symm⟩
  | c =>
    refine brokenAt_congr (brokenAt_breakClaim _ .c id cause) ?_ (by simp) ⟨rfl, rfl⟩
    exact ⟨((b (by decide)).1.trans (a (by decide)).1).symm, ((b (by decide)).2.trans (a (by decide)).2).symm⟩

theorem postReply_writes (s : State) (p : Port) (r : Reply) (d : Bool) :
    postReply s p r d = { s with ports := (postReply s p r d).ports } := by
  unfold postReply; split <;> rfl

theorem breakClaim_writes (s : State) (p : Port) (id : Nat) (cause : ChangeCause) : breakClaim s p id cause
    = { s with claims := (breakClaim s p id cause).claims, ports := (breakClaim s p id cause).ports } := by
  unfold breakClaim; split
  · split
    · rw [postReply_writes]; rfl
    · rfl
  · rfl

theorem reportModification_writes (s : State) (id : Nat) (cause : ChangeCause) : reportModification s id cause
    = { s with claims := (reportModification s id cause).claims, ports := (reportModification s id cause).ports } := by
  simp only [reportModification]
  rw [breakClaim_writes _ .c, breakClaim_writes _ .b, breakClaim_writes _ .a]

/-- Settles O20: a report at each port, and the three cases of `waitChange`. -/
theorem waitsFollowReservations : Obligations.WaitsFollowReservations := by
  refine ⟨fun s id cause => ⟨reportModification_writes s id cause, brokenAt_reportModification s id cause⟩,
    fun f s ask => ?_⟩
  have run : exec (.waitChange f) s = .next (waitChange (taken s f) f) := request_of_mayDefer _ ask (by decide)
  rw [run]
  refine ⟨fun waits => ?_, fun noWait unreserved => ?_, fun id noWait reserved => ?_⟩
  · simp only [waitChange, claim_taken, waits]; rfl
  · simp only [waitChange, claim_taken, noWait, unreserved]; rfl
  · simp only [waitChange, claim_taken, noWait, reserved]; rfl

end Sys2Proof.Machine
end

section
/-! PROOFS. What the shared operations of the drive, the axes and the tracks leave, once for every later proof. -/

namespace Sys2Proof.Machine
open Sys2Proof.Claims

/-! ### Time, and the state that has taken a frame -/

theorem arrives_iff (s : State) (d : Nat) : arrives s d = true ↔ Arrives s d := decide_eq_true_iff

theorem reach_eq_later (s : State) (d : Nat) : reach s d = later s d := rfl

@[simp] theorem slotAt_taken (s : State) (f : Frame) (i : SlotNo) : slotAt (taken s f) i = slotAt s i := rfl

@[simp] theorem lookup_taken (s : State) (f : Frame) (id : Nat) : lookup (taken s f) id = lookup s id := rfl

@[simp] theorem roundAt_taken (s : State) (f : Frame) (n : RoundNo) : roundAt (taken s f) n = roundAt s n := rfl

theorem portRecord_taken_same (s : State) (f : Frame) :
    portRecord (taken s f) f.port = { portRecord s f.port with out := bytesOut f 0x5A#8 } := portRecord_setPort_same ..

/-! ### Slots -/

theorem mem_allSlots : ∀ i : SlotNo, i ∈ allSlots := by decide

theorem countSlots_pos_iff (s : State) (test : Aim → Bool) :
    0 < countSlots s test ↔ ∃ i a, slotAt s i = some a ∧ test a = true := by
  simp only [countSlots, List.countP_pos_iff, Option.any_eq_true]
  exact ⟨fun ⟨i, _, a, held, passes⟩ => ⟨i, a, held, passes⟩,
      fun ⟨i, a, held, passes⟩ => ⟨i, mem_allSlots i, a, held, passes⟩⟩

theorem freeSlot?_eq_none {s : State} (h : freeSlot? s = none) : ¬ SlotFree s := by
  rintro ⟨i, free⟩
  simpa [free] using List.find?_eq_none.mp h i (mem_allSlots i)

theorem isSome_freeSlot?_iff (s : State) : (freeSlot? s).isSome = true ↔ SlotFree s := by
  cases h : freeSlot? s with
  | none => simpa using freeSlot?_eq_none h
  | some i => exact ⟨fun _ => ⟨i, freeSlot?_eq_some h⟩, fun _ => rfl⟩

/-! ### The drive -/

/-- R89, R90: a move command in HOLDING or in MOVING. -/
theorem commandMove_of_drivable {s : State} (h : Drivable s) (target : Pointing) (c : Commander) :
    commandMove s target c = moved s target c := by
  rcases h with ⟨held, drive⟩ | ⟨m, drive⟩ <;> simp [commandMove, moved, drive]

theorem stopDrive_eq (s : State) : stopDrive s = { s with drive := stoppedDrive s } := by
  cases drive : s.drive with
  | moving m =>
    simp only [stopDrive, stoppedDrive, drive]
    split
    · rw [← drive]
    · rfl
  | _ => simp only [stopDrive, stoppedDrive, drive]; rw [← drive]

theorem stopTrackMove_eq (s : State) : stopTrackMove s = { s with drive := trackStopped s } := by
  cases drive : s.drive with
  | moving m =>
    simp only [stopTrackMove, trackStopped, drive]
    split
    · exact stopDrive_eq s
    · rw [← drive]
  | _ => simp only [stopTrackMove, trackStopped, drive]; rw [← drive]

theorem abandonRequest_eq (s : State) (c : Commander) :
    abandonRequest s c = { s with distance := abandonedBy c s.distance } := rfl

theorem sendDistanceRequest_acquisition (s : State) : sendDistanceRequest s .acquisition = requested s := rfl

/-! ### Tracks -/

/-- R148 steps 1, 2 and 4: the axes, the request and the grant as a track leaves them. -/
theorem releaseTrack_eq (s : State) : releaseTrack s = { s with
    drive := trackStopped s, distance := abandonedBy .track s.distance, grant := { s.grant with track := .absent },
    track := none } := by
  simp only [releaseTrack, stopTrackMove_eq]; rfl

theorem endTrack_some {s : State} {t : Track} (h : s.track = some t) (c : Status) :
    endTrack s (some c) = postReply (releaseTrack s) t.owner (trackEndReply t c s.elapsed) true := by
  simp [endTrack, h]

theorem endTrack_silent {s : State} {t : Track} (h : s.track = some t) : endTrack s none = releaseTrack s := by
  simp [endTrack, h]

theorem trackHolds_iff (s : State) : trackHolds s = true ↔ ∃ b, s.grant.track = .holding b := by
  unfold trackHolds; split <;> simp_all

/-- R135: a track that turns to its entry. -/
theorem trackAcquire_eq {s : State} {t : Track} {e : Entry} (found : lookup s t.target = some e)
    (drivable : Drivable s) :
    trackAcquire s t = acquired s t e := by
  have raw : currentRaw s = rawNow s := rfl
  simp only [trackAcquire, acquired, found, raw]
  cases solveEntry s.station.state s.station.omega s.station.latest (rawNow s) e.azimuth e.zenith .nearer with
  | error st => rfl
  | ok sol => exact commandMove_of_drivable (by exact drivable) ..

/-- R73, R144: a track that steps aside. -/
theorem suspendTrack_eq {s : State} {t : Track} (h : s.track = some t) : suspendTrack s = aside s t := by
  simp only [suspendTrack, stopTrackMove_eq, abandonRequest_eq, h]; rfl

end Sys2Proof.Machine
end

section
/-! PROOFS. The aim queue and the arbiter's choice (R63 to R71, R188). -/

namespace Sys2Proof.Machine
open Sys2Proof.Claims

/-! ### Admission -/

theorem tagInUse_iff (s : State) (f : Frame) : tagInUse s f = true ↔ ¬ TagFree s f := by
  simp only [tagInUse, decide_eq_true_eq, countSlots_pos_iff, ownAim, Bool.and_eq_true, TagFree, Classical.not_forall,
    Classical.not_not,
    and_assoc, exists_prop]

theorem aimDirectionFieldsOf_target {b : List Byte} {x : AimFields} (h : aimDirectionFieldsOf b = some x) :
    ∃ p w n, x.target = .direct p w n := by
  simp only [aimDirectionFieldsOf, bind, Option.bind_eq_some_iff] at h
  obtain ⟨_, -, _, -, _, -, _, -, _, -, _, -, _, -, fields⟩ := h
  split at fields
  · cases fields
  · cases fields; exact ⟨_, _, _, rfl⟩

theorem placeAim_of_free {s : State} {i : SlotNo} (h : freeSlot? s = some i) (a : Aim) :
    placeAim s a = enterQueued s i a := by
  simp [placeAim, h]

theorem admittedAim_taken (s : State) (f : Frame) (x : AimFields) : admittedAim (taken s f) f x = portAim s f x := by
  simp only [admittedAim, portAim, levelOfAim, portRecord_taken_same]

theorem requestAim_of_used {s : State} {f : Frame} (x : AimFields) (used : ¬ TagFree s f) :
    requestAim s f x = refuse s f .busy := if_pos ((tagInUse_iff s f).mpr used)

theorem requestAim_of_status {s : State} {f : Frame} {x : AimFields} {st : Status} (unused : TagFree s f)
    (status : targetStatus s x.target = some st) : requestAim s f x = refuse s f st := by
  have unused : tagInUse s f = false := by simpa using (not_congr (tagInUse_iff s f)).mpr (not_not_intro unused)
  simp [requestAim, unused, status]

theorem requestAim_of_fit {s : State} {f : Frame} {x : AimFields} (unused : TagFree s f)
    (status : targetStatus s x.target = none) : requestAim s f x = enterAim s f x := by
  have unused : tagInUse s f = false := by simpa using (not_congr (tagInUse_iff s f)).mpr (not_not_intro unused)
  simp [requestAim, unused, status]

theorem enterAim_of_full {s : State} {f : Frame} (x : AimFields) (full : ¬ SlotFree s) :
    enterAim s f x = refuse s f .queueFull := if_neg ((not_congr (isSome_freeSlot?_iff s)).mpr full)

/-- R66, R67: an admitted aim enters QUEUED in a slot that was free. -/
theorem enterAim_taken_of_free {s : State} (f : Frame) (x : AimFields) (free : SlotFree s) :
    ∃ i, slotAt s i = none ∧ enterAim (taken s f) f x = afterEvent (enterQueued (taken s f) i (portAim s f x)) := by
  have free : (freeSlot? (taken s f)).isSome = true := (isSome_freeSlot?_iff s).mpr free
  obtain ⟨i, found⟩ := Option.isSome_iff_exists.mp free
  refine ⟨i, freeSlot?_eq_some (s := taken s f) found, ?_⟩
  rw [enterAim, if_pos free, placeAim_of_free found, admittedAim_taken]

theorem targetStatus_entry (s : State) (id : Nat) : targetStatus s (.entry id)
    = if lookup s id = none then some .noSuchTarget
      else if s.station.state = .unset then some .noOrientation else none := by
  simp [targetStatus]

/-- Settles O21: the checks of R66 in their order, and the admission. -/
theorem aimIsAdmittedOrRefused : Obligations.AimIsAdmittedOrRefused := by
  refine fun f s x => ⟨fun ask fields => ?_, fun id ask fields target => ?_⟩
  · have run : exec (.aimDirection f) s = .next (requestAim (taken s f) f x) :=
      (request_of_mayDefer _ ask (by decide)).trans (by rw [fields]; rfl)
    obtain ⟨p, w, n, target⟩ := aimDirectionFieldsOf_target fields
    have fit : targetStatus (taken s f) x.target = none := by rw [target]; rfl
    rw [run]
    refine ⟨fun unused free => ?_, fun used => ?_, fun unused full => ?_⟩
    · obtain ⟨i, empty, entered⟩ := enterAim_taken_of_free f x free
      exact ⟨i, empty, by rw [requestAim_of_fit (by exact unused) fit, entered]⟩
    · exact congrArg _ (requestAim_of_used x (by exact used))
    · rw [requestAim_of_fit (by exact unused) fit]; exact congrArg _ (enterAim_of_full x (by exact full))
  · have run : exec (.aim f) s = .next (requestAim (taken s f) f x) :=
      (request_of_mayDefer _ ask (by decide)).trans (by rw [fields]; rfl)
    have status : targetStatus (taken s f) x.target = if lookup s id = none then some .noSuchTarget
        else if s.station.state = .unset then some .noOrientation
        else none := by rw [target]; exact targetStatus_entry _ _
    rw [run]
    refine ⟨fun unused free present known => ?_, fun used => ?_, fun unused absent => ?_,
      fun unused present unknown => ?_, fun unused present known full => ?_⟩
    · obtain ⟨i, empty, entered⟩ := enterAim_taken_of_free f x free
      exact ⟨i, empty, by rw [requestAim_of_fit (by exact unused) (by simp [status, present, known]), entered]⟩
    · exact congrArg _ (requestAim_of_used x (by exact used))
    · exact congrArg _ (requestAim_of_status (by exact unused) (by simp [status, absent]))
    · exact congrArg _ (requestAim_of_status (by exact unused) (by simp [status, present, unknown]))
    · rw [requestAim_of_fit (by exact unused) (by simp [status, present, known])]
      exact congrArg _ (enterAim_of_full x (by exact full))

/-! ### Entering QUEUED -/

theorem endTrack_active (s : State) (c : Option Status) : (endTrack s c).grant.active = s.grant.active := by
  unfold endTrack
  split
  · rfl
  · split
    · simp [releaseTrack]
    · simp [releaseTrack]

theorem holdTest_active (s : State) : (holdTest s).grant.active = s.grant.active := by
  unfold holdTest endHoldingTrack
  split
  · split
    · exact endTrack_active ..
    · rfl
  · rfl

/-- Settles O22: what `enterQueued` writes. -/
theorem queuedAimTakesSequence : Obligations.QueuedAimTakesSequence := by
  intro s i a
  have slots (j : SlotNo) : slotAt (enterQueued s i a) j
      = slotAt (putSlot s i (some { a with state := .queued, sequence := s.sequence })) j := by
    simp [enterQueued, slotAt]
  refine ⟨(slots i).trans (slotAt_putSlot_same ..), by simp [enterQueued], fun j other =>
    (slots j).trans (slotAt_putSlot_other _ _ other), ?_⟩
  simp [enterQueued, holdTest_active]

/-! ### The best QUEUED aim -/

theorem isQueued_iff (a : Aim) : isQueued a = true ↔ a.state = .queued := by simp [isQueued]

theorem earlier_iff_arrivedBefore (a b : BitVec 32) : earlier a b = true ↔ ArrivedBefore a b := by
  simp [earlier, ArrivedBefore]

/-- R65: sequence numbers within half the counter's range of a base compare as their distances from it. -/
theorem earlier_iff_of_base {a b base : BitVec 32} (ha : (a - base).toNat < 2147483648)
    (hb : (b - base).toNat < 2147483648) :
    earlier a b = true ↔ (a - base).toNat < (b - base).toNat := by
  rw [earlier_iff_arrivedBefore, ArrivedBefore]
  simp only [BitVec.toNat_sub] at *
  omega

/-- R71: a relation between QUEUED aims that the comparison of two candidates decides. -/
structure DecidedByBefore (s : State) (R : Aim → Aim → Prop) : Prop where
  refl : ∀ a, R a a
  trans : ∀ {a b c}, R a b → R b c → R a c
  decides : ∀ {i j a b}, slotAt s i = some a → a.state = .queued → slotAt s j = some b → b.state = .queued →
    if before a.level a.sequence b.level b.sequence then R a b else R b a

/-- R71: `best` stands in the relation to every QUEUED aim of the slots in a list. -/
def BestOf (s : State) (R : Aim → Aim → Prop) (slots : List SlotNo) : Option (SlotNo × Aim) → Prop
  | none => ∀ j ∈ slots, ∀ b, slotAt s j = some b → b.state ≠ .queued
  | some (i, a) => slotAt s i = some a ∧ a.state = .queued
      ∧ ∀ j ∈ slots, ∀ b, slotAt s j = some b → b.state = .queued → R a b

/-- A slot without a QUEUED aim changes no choice. -/
theorem BestOf.skip {s : State} {R : Aim → Aim → Prop} {slots : List SlotNo} {best : Option (SlotNo × Aim)}
    (h : BestOf s R slots best) {i : SlotNo} (none : ∀ a, slotAt s i = some a → a.state ≠ .queued) :
    BestOf s R (slots ++ [i]) best := by
  have seen {b : Aim} {j : SlotNo} (hj : j ∈ slots ++ [i]) (held : slotAt s j = some b) (queued : b.state = .queued) :
      j ∈ slots := by
    rcases List.mem_append.mp hj with hj | hj
    · exact hj
    · obtain rfl := List.mem_singleton.mp hj
      exact absurd queued (none b held)
  cases best with
  | none => exact fun j hj b held queued => h j (seen hj held queued) b held queued
  | some best =>
    obtain ⟨held, queued, most⟩ := h
    exact ⟨held, queued, fun j hj b held queued => most j (seen hj held queued) b held queued⟩

/-- A QUEUED aim that stands in the relation to those of the slots before it is the choice with its own slot. -/
theorem bestOf_append_self {s : State} {R : Aim → Aim → Prop} {slots : List SlotNo} {i k : SlotNo} {a c : Aim}
    (held : slotAt s k = some c) (queued : c.state = .queued) (slot : slotAt s i = some a) (here : R c a)
    (most : ∀ j ∈ slots, ∀ b, slotAt s j = some b → b.state = .queued → R c b) :
    BestOf s R (slots ++ [i]) (some (k, c)) := by
  refine ⟨held, queued, fun j hj b held waits => ?_⟩
  rcases List.mem_append.mp hj with hj | hj
  · exact most j hj b held waits
  · obtain rfl := List.mem_singleton.mp hj
    rwa [← Option.some.inj (slot.symm.trans held)]

/-- R71: one more slot compared. -/
theorem BestOf.betterSlot {s : State} {R : Aim → Aim → Prop} (order : DecidedByBefore s R) {slots : List SlotNo}
    {best : Option (SlotNo × Aim)} (h : BestOf s R slots best) (i : SlotNo) :
    BestOf s R (slots ++ [i]) (betterSlot s best i) := by
  cases slot : slotAt s i with
  | none => simpa [Machine.betterSlot, slot] using h.skip (by simp [slot])
  | some a =>
    by_cases queued : a.state = .queued
    · cases best with
      | none =>
        simp only [Machine.betterSlot, slot, (isQueued_iff a).mpr queued, if_true]
        exact bestOf_append_self slot queued slot (order.refl a) fun j hj b held waits => absurd waits (h j hj b held)
      | some best =>
        obtain ⟨k, c⟩ := best
        obtain ⟨held, waits, most⟩ := h
        have decided := order.decides slot queued held waits
        simp only [Machine.betterSlot, slot, (isQueued_iff a).mpr queued, if_true]
        split at decided
        · next first =>
          rw [if_pos first]
          exact bestOf_append_self slot queued slot (order.refl a) fun j hj b held waits =>
            order.trans decided (most j hj b held waits)
        · next first => rw [if_neg first]; exact bestOf_append_self held waits slot decided most
    · have skip : isQueued a = false := by simpa [isQueued] using queued
      simpa [Machine.betterSlot, slot, skip] using
        h.skip fun b held => by rwa [Option.some.inj (held.symm.trans slot)]

theorem bestOf_foldl {s : State} {R : Aim → Aim → Prop} (order : DecidedByBefore s R) (more : List SlotNo)
    {slots : List SlotNo} {best : Option (SlotNo × Aim)} (h : BestOf s R slots best) :
    BestOf s R (slots ++ more) (more.foldl (betterSlot s) best) := by
  induction more generalizing slots best with
  | nil => simpa using h
  | cons i more ih => simpa using ih (h.betterSlot order i)

theorem bestOf_bestQueued {s : State} {R : Aim → Aim → Prop} (order : DecidedByBefore s R) :
    BestOf s R allSlots (bestQueued s) :=
  bestOf_foldl order allSlots (slots := []) (best := none) (by simp [BestOf])

/-- R71: the choice has the highest level. -/
theorem decidedByBefore_rank (s : State) : DecidedByBefore s (fun a b => b.level.rank ≤ a.level.rank) where
  refl _ := Nat.le_refl _
  trans h h' := Nat.le_trans h' h
  decides _ _ _ _ := by
    split
    · next h =>
      simp only [before, Bool.or_eq_true, decide_eq_true_eq, Bool.and_eq_true] at h
      omega
    · next h =>
      simp only [before, Bool.or_eq_true, decide_eq_true_eq, Bool.and_eq_true] at h
      omega

/-- R71: `a` is no worse a choice than `b`, with arrivals counted from a base. -/
def NoWorse (base : BitVec 32) (a b : Aim) : Prop :=
  b.level.rank < a.level.rank
  ∨ (b.level.rank = a.level.rank ∧ (a.sequence - base).toNat ≤ (b.sequence - base).toNat)

/-- R65, R71: among sequence numbers within half the counter's range of a base the comparison counts from the base. -/
theorem decidedByBefore_noWorse {s : State} {base : BitVec 32}
    (half : ∀ i a, slotAt s i = some a → a.state = .queued → (a.sequence - base).toNat < 2147483648) :
    DecidedByBefore s (NoWorse base) where
  refl _ := .inr ⟨rfl, Nat.le_refl _⟩
  trans h h' := by unfold NoWorse at *; omega
  decides {i j a b} heldA queuedA heldB queuedB := by
    have earlier := earlier_iff_of_base (half i a heldA queuedA) (half j b heldB queuedB)
    split
    · next h =>
      simp only [before, Bool.or_eq_true, decide_eq_true_eq, Bool.and_eq_true, earlier] at h
      unfold NoWorse; omega
    · next h =>
      simp only [before, Bool.or_eq_true, decide_eq_true_eq, Bool.and_eq_true, earlier] at h
      unfold NoWorse; omega

/-- Settles O24, from the choice over all slots. -/
theorem highestLevelEarliestFirst : Obligations.HighestLevelEarliestFirst := by
  intro s base half
  have best := bestOf_bestQueued (decidedByBefore_noWorse half)
  cases chosen : bestQueued s with
  | none =>
    rw [chosen] at best
    exact ⟨iff_of_true rfl fun i a => best i (mem_allSlots i) a, by simp⟩
  | some x =>
    rw [chosen] at best
    obtain ⟨held, queued, most⟩ := best
    refine ⟨iff_of_false (by simp) fun none => none _ _ held queued, fun i a same => ?_⟩
    cases same
    exact ⟨held, queued, fun j => most j (mem_allSlots j)⟩

end Sys2Proof.Machine
end

section
/-! PROOFS. The arbiter's act and what follows from an event (R71, R75, R135, R188; log entry 6). -/

namespace Sys2Proof.Machine
open Sys2Proof.Claims

/-! ### The conditions of a choice -/

theorem isRunning_iff (s : State) : isRunning s = true ↔ ∃ d, s.power = .run d := by
  unfold isRunning; split <;> simp_all

theorem inFault_iff (s : State) : inFault s = true ↔ ∃ cause, s.drive = .fault cause := by
  unfold inFault; split <;> simp_all

theorem mayChoose_iff (s : State) : mayChoose s = true ↔ Ready s := by
  rw [mayChoose, Bool.and_eq_true, Bool.not_eq_true', ← Bool.not_eq_true, isRunning_iff, inFault_iff, Ready, not_exists]

/-- R188: a waiting track start counts as NORMAL at its own sequence. -/
theorem before_normal_iff (n : BitVec 32) (a : Aim) : before .normal n a.level a.sequence = true
    ↔ a.level = .background ∨ (a.level = .normal ∧ ArrivedBefore n a.sequence) := by
  rw [before, Bool.or_eq_true, Bool.and_eq_true, earlier_iff_arrivedBefore]
  cases a.level <;> simp [Level.rank]

/-! ### The arbiter's act -/

theorem arbitrate_of_active {s : State} (h : s.grant.active ≠ none) : arbitrate s = none := by
  rw [arbitrate, if_pos (Option.isSome_iff_ne_none.mpr h)]

theorem arbitrate_of_not_ready {s : State} (lets : ∀ b, s.grant.track ≠ .holding b) (not : ¬ Ready s) :
    arbitrate s = none := by
  have mayNot : mayChoose s = false := by simpa using (not_congr (mayChoose_iff s)).mpr not
  unfold arbitrate
  split
  · rfl
  · cases track : s.grant.track with
    | holding b => exact absurd track (lets b)
    | waiting n => simp [mayNot]
    | absent => simp [mayNot]

theorem arbitrate_of_absent {s : State} (idle : s.grant.active = none) (ready : Ready s)
    (absent : s.grant.track = .absent) :
    arbitrate s = (bestQueued s).map (fun c => dispatch s c.1 c.2) := by
  unfold arbitrate; simp [idle, absent, (mayChoose_iff s).mpr ready]

theorem arbitrate_of_waiting_alone {s : State} {n : BitVec 32} (idle : s.grant.active = none) (ready : Ready s)
    (waits : s.grant.track = .waiting n) (none : bestQueued s = none) : arbitrate s = some (takeAxes s) := by
  unfold arbitrate; simp [idle, waits, (mayChoose_iff s).mpr ready, none]

theorem arbitrate_of_waiting {s : State} {n : BitVec 32} {i : SlotNo} {a : Aim} (idle : s.grant.active = none)
    (ready : Ready s) (waits : s.grant.track = .waiting n) (best : bestQueued s = some (i, a)) : arbitrate s
      = if before .normal n a.level a.sequence then some (takeAxes s) else some (dispatch s i a) := by
  unfold arbitrate; simp [idle, waits, (mayChoose_iff s).mpr ready, best]

/-! ### What follows from an event -/

theorem serveRound_of_not_running {s : State} {n : RoundNo} (h : (roundAt s n).state ≠ .running) :
    serveRound s n = s := by
  have fed : feedRound 5 s n = s := by rw [feedRound, if_neg (by simp [mayFeed, h])]
  rw [serveRound, fed, if_neg (by simp [runOver, h])]

theorem serveRounds_of_none_running {s : State} (h : ∀ n, (roundAt s n).state ≠ .running) : serveRounds s = s := by
  rw [serveRounds, serveRound_of_not_running (h 0), serveRound_of_not_running (h 1), serveRound_of_not_running (h 2),
    serveRound_of_not_running (h 3)]

theorem followOn_of_follows {k : Nat} {s t : State} (h : Follows k s t) {fuel : Nat} (enough : k < fuel) :
    followOn fuel s = idleTest t := by
  induction k generalizing s fuel with
  | zero =>
    obtain ⟨none, rfl⟩ := h
    obtain ⟨fuel, rfl⟩ := Nat.exists_eq_add_of_lt enough
    rw [Nat.zero_add, followOn, none]
  | succ k ih =>
    obtain ⟨u, act, more⟩ := h
    obtain ⟨fuel, rfl⟩ := Nat.exists_eq_add_of_lt enough
    rw [followOn, act]
    exact ih more (by omega)

theorem afterEvent_of_follows {k : Nat} {s t : State} (bound : k < 4096) (h : Follows k s t) :
    afterEvent s = idleTest t := by
  rw [afterEvent]; exact followOn_of_follows h bound

/-- Log entry 6: with no round running and no act of the arbiter, the idleness test alone follows from an event. -/
theorem afterEvent_of_no_act {s : State} (rounds : ∀ n, (roundAt s n).state ≠ .running) (none : arbitrate s = none) :
    afterEvent s = idleTest s := by
  have served := serveRounds_of_none_running rounds
  exact afterEvent_of_follows (k := 0) (by decide) ⟨by rwa [served], served.symm⟩

/-! ### Idleness -/

theorem idleTest_of_idle {s : State} (idle : isIdle s = true) (absent : s.power = .run none) :
    idleTest s = { s with power := .run (if s.settings.idleRest = 0 then none
      else some (s.elapsed + 640000 * s.settings.idleRest)) } := by
  simp only [idleTest, absent, idle, if_true]; rfl

theorem idleTest_of_not_run {s : State} (h : ∀ d, s.power ≠ .run d) : idleTest s = s := by
  cases power : s.power with
  | run d => exact absurd power (h d)
  | _ => simp [idleTest, power]

theorem idleTest_of_deadline {s : State} (idle : isIdle s = true) (present : s.power ≠ .run none) : idleTest s = s := by
  cases power : s.power with
  | run d =>
    cases d with
    | none => exact absurd power present
    | some d => simp [idleTest, power, idle]
  | _ => simp [idleTest, power]

theorem idleTest_of_busy {s : State} (busy : isIdle s = false) {d : Option Nat} (power : s.power = .run d) :
    idleTest s = { s with power := .run none } := by
  cases d with
  | none => simp [idleTest, power, busy]; rw [← power]
  | some d => simp [idleTest, power, busy]

/-! ### The axes to a track start -/

theorem takeAxes_eq {s : State} {t : Track} {e : Entry} (track : s.track = some t) (found : lookup s t.target = some e)
    (drivable : Drivable s) : takeAxes s = acquired { s with
      grant := { s.grant with track := .holding false },
      track := some { t with holdDeadline := some (s.elapsed + 640000 * s.settings.holdLimit), holdPassed := false } }
      { t with holdDeadline := some (s.elapsed + 640000 * s.settings.holdLimit), holdPassed := false } e := by
  simp only [takeAxes, track]
  exact trackAcquire_eq (by exact found) (by exact drivable)

/-- Settles O23: the arbiter's act by the state of the grant, the turns that follow an event, and the idleness test. -/
theorem arbiterActsInOrder : Obligations.ArbiterActsInOrder := by
  refine ⟨fun s rounds lets => ⟨fun off => ?_, fun ⟨cause, fault⟩ => ?_⟩,
    fun s => ⟨arbitrate_of_active, arbitrate_of_not_ready, fun idle ready absent => ?_, fun n idle ready waits => ?_⟩,
    fun s t e => takeAxes_eq, fun k s t => afterEvent_of_follows,
    fun s => ⟨idleTest_of_idle, idleTest_of_deadline, fun busy d => idleTest_of_busy busy, idleTest_of_not_run⟩⟩
  · have none := arbitrate_of_not_ready lets fun ⟨⟨d, run⟩, _⟩ => off d run
    rw [afterEvent_of_no_act rounds none, idleTest_of_not_run off]
  · exact afterEvent_of_no_act rounds (arbitrate_of_not_ready lets fun ready => ready.2 cause fault)
  · rw [arbitrate_of_absent idle ready absent]
    exact ⟨fun none => by rw [none]; rfl, fun i a best => by rw [best]; rfl⟩
  · refine ⟨arbitrate_of_waiting_alone idle ready waits, fun i a best => ?_⟩
    rw [arbitrate_of_waiting idle ready waits best]
    refine ⟨fun first => ?_, fun last => ?_⟩
    · refine if_neg fun last => ?_
      rcases (before_normal_iff n a).mp last with last | ⟨normal, earlier⟩
      · simp [last] at first
      · simp [normal, earlier] at first
    · exact if_pos ((before_normal_iff n a).mpr last)

end Sys2Proof.Machine
end

section
/-! PROOFS. Completions, dispatch and cancelling (R72, R76 to R82, R103, R125, R127). -/

namespace Sys2Proof.Machine
open Sys2Proof.Claims

/-! ### Completions -/

theorem delivered_deliver (u : State) (i : SlotNo) (a : Aim) (st : Status) :
    Delivered u i a (completionReply a st) (deliver u i a st) := by
  refine ⟨fun short none => ?_, fun full => ?_⟩
  · exact if_pos ((hasRoom_iff u a.port).2 ⟨short, none⟩)
  · refine if_neg fun room => ?_
    obtain ⟨short, none⟩ := (hasRoom_iff u a.port).1 room
    rcases full with full | full
    · omega
    · exact full none

theorem countFinal_eq (s : State) (n : RoundNo) (st : Status) :
    countFinal s n st = putRound s n (countedRound (roundAt s n) st) := by
  simp only [countFinal, countedRound, Bool.or_eq_true, decide_eq_true_eq]
  split <;> rfl

theorem completes_complete (u : State) (i : SlotNo) (a : Aim) (st : Status) :
    Completes u i a st (complete u i a st) := by
  refine ⟨fun origin => ?_, fun n origin => ?_, fun id origin target => ?_⟩
  · simpa only [complete, completionReply, completionOf, origin] using delivered_deliver u i a st
  · simpa only [complete, completionReply, completionOf, origin, countFinal_eq] using delivered_deliver
      (countFinal u n st) i a st
  · simp only [complete, origin, target]; rfl

/-! ### A slot that the completing aim leaves -/

@[simp] theorem putSlot_putSlot (s : State) (i : SlotNo) (x y : Option Aim) :
    putSlot (putSlot s i x) i y = putSlot s i y := by
  simp only [putSlot, Vector.set_set, Option.map_map]; rfl

theorem postReply_putSlot (s : State) (i : SlotNo) (x : Option Aim) (p : Port) (r : Reply) (d : Bool) :
    postReply (putSlot s i x) p r d = putSlot (postReply s p r d) i x := by
  have room : hasRoom (putSlot s i x) p = hasRoom s p := rfl
  simp only [postReply, room]; split <;> rfl

theorem applyCheck_putSlot (s : State) (i : SlotNo) (x : Option Aim) (c : Check) (st : Status) :
    applyCheck (putSlot s i x) c st = putSlot (applyCheck s c st) i x := by
  have station : (putSlot s i x).station = s.station := rfl
  simp only [applyCheck, station]
  split
  · rfl
  · rfl
  · split <;> rfl
  · rfl

theorem concludeCheck_putSlot (s : State) (i : SlotNo) (x : Option Aim) (c : Check) :
    concludeCheck (putSlot s i x) c = putSlot (concludeCheck s c) i x := by
  have result : checkResult (putSlot s i x) c = checkResult s c := rfl
  have station (u : State) : (putSlot u i x).station = u.station := rfl
  simp only [concludeCheck, result, applyCheck_putSlot, station, postReply_putSlot]

/-- R160: a check knows nothing of the slots. -/
theorem checkAimCompletes_putSlot (s : State) (i : SlotNo) (x : Option Aim) (id : Nat) (st : Status) (z : Option Int) :
    checkAimCompletes (putSlot s i x) id st z = putSlot (checkAimCompletes s id st z) i x := by
  have station : (putSlot s i x).station = s.station := rfl
  have found : lookup (putSlot s i x) id = lookup s id := rfl
  simp only [checkAimCompletes, station, found]
  split
  · rfl
  · next c _ =>
    generalize { c with items := c.items.map (settleItem id st z (lookup s id)) } = c
    split
    · exact concludeCheck_putSlot { s with station := { s.station with check := some c } } i x c
    · rfl

theorem delivered_of_putSlot {u t : State} {i : SlotNo} {x : Option Aim} {a : Aim} {r : Reply}
    (h : Delivered (putSlot u i x) i a r t) : Delivered u i a r t := by
  obtain ⟨room, full⟩ := h
  refine ⟨fun short empty => ?_, fun crowded => ?_⟩
  · rw [room short empty]; exact putSlot_putSlot (appendReply u a.port r) i x none
  · rw [full crowded, putSlot_putSlot]; rfl

/-- R78: a completion reads nothing of the slot it frees. -/
theorem completes_of_putSlot {u t : State} {i : SlotNo} {x : Option Aim} {a : Aim} {st : Status}
    (h : Completes (putSlot u i x) i a st t) : Completes u i a st t := by
  obtain ⟨port, round, check⟩ := h
  refine ⟨fun origin => delivered_of_putSlot (port origin), fun n origin => ?_, fun id origin target => ?_⟩
  · exact delivered_of_putSlot (x := x) (round n origin)
  · rw [check id origin target, checkAimCompletes_putSlot, putSlot_putSlot]

/-! ### Dispatch -/

theorem lookup_touchEntry (s : State) (id j : Nat) : lookup (touchEntry s id) j = lookup s j := by
  cases found : locate s id with
  | none => simp [touchEntry, updateEntry, found]
  | some x =>
    have ways (k : Fin 32) : (setAt (touchEntry s id) k).ways = (setAt s k).ways := by
      rw [touchEntry_of_located (w := x.1) (e := x.2) found]
      by_cases same : k = setOf id
      · subst same; rw [setAt_putSet_same]
      · rw [setAt_putSet_other _ _ same]
    simp only [lookup, locate, findWay, ways]

theorem lookup_touchTarget (s : State) (x : AimTarget) (j : Nat) : lookup (touchTarget s x) j = lookup s j := by
  cases x with
  | entry id => exact lookup_touchEntry s id j
  | direct p w n => rfl

theorem retryLimitOf_eq {s : State} {limit : Nat} {x : AimTarget} (h : LimitIs s limit x) :
    retryLimitOf s x = limit := by
  cases x with
  | entry id =>
    obtain ⟨e, found, rfl⟩ := h
    simp [retryLimitOf, found]
  | direct p w n => exact h

/-- R72: the aim as its dispatch makes it. -/
def triedAim (a : Aim) : Aim := { a with state := .active, attempts := a.attempts + 1 }

/-- R72: the aim in its slot has the axes, and its target is most recent. -/
def begun (s : State) (i : SlotNo) (a : Aim) : State :=
  putSlot { touchTarget s a.target with grant := { s.grant with active := some i } } i (some (triedAim a))

theorem touchTarget_putSlot (s : State) (g : Grant) (i : SlotNo) (x : Option Aim) (target : AimTarget) :
    touchTarget (putSlot { s with grant := g } i x) target = putSlot { touchTarget s target with grant := g } i x := by
  cases target with
  | direct p w n => rfl
  | entry id =>
    have found : locate (putSlot { s with grant := g } i x) id = locate s id := rfl
    simp only [touchTarget, touchEntry, updateEntry, found]
    split <;> rfl

theorem retryLimitOf_begun (s : State) (i : SlotNo) (a : Aim) :
    retryLimitOf (begun s i a) a.target = retryLimitOf s a.target := by
  have found (id : Nat) : lookup (begun s i a) id = lookup s id := lookup_touchTarget s a.target id
  simp only [retryLimitOf, found]

theorem solveAim_begun (s : State) (i : SlotNo) (a : Aim) : solveAim (begun s i a) (triedAim a) = solveAim s a := by
  have found (id : Nat) : lookup (begun s i a) id = lookup s id := lookup_touchTarget s a.target id
  have station : (begun s i a).station = s.station := by simp [begun]
  have raw : currentRaw (begun s i a) = currentRaw s := by simp [begun, currentRaw]
  simp only [solveAim, found, station, raw, triedAim]

/-- R72: the checks of a dispatch, on the state in which the aim has the axes. -/
theorem dispatch_eq (s : State) (i : SlotNo) (a : Aim) : dispatch s i a
    = if retryLimitOf s a.target < a.attempts then
        complete (releaseAim (begun s i a)) i { a with state := .active } (a.lastStatus.getD .notFound)
      else match solveAim s a with
        | .error st => complete (releaseAim (begun s i a)) i (triedAim a) st
        | .ok sol => beginAttempt (begun s i a) i sol := by
  have order : dispatch s i a = if retryLimitOf (begun s i a) a.target + 1 < a.attempts + 1 then
        complete (releaseAim (begun s i a)) i { a with state := .active } (a.lastStatus.getD .notFound)
      else match solveAim (begun s i a) (triedAim a) with
        | .error st => complete (releaseAim (begun s i a)) i (triedAim a) st
        | .ok sol => beginAttempt (begun s i a) i sol := by
    rw [begun, ← touchTarget_putSlot]; rfl
  simp only [order, retryLimitOf_begun, solveAim_begun, Nat.add_lt_add_iff_right]

theorem completes_begun (s : State) (i : SlotNo) (a b : Aim) (st : Status) :
    Completes { touchTarget s a.target with grant := { s.grant with active := none } } i b st
      (complete (releaseAim (begun s i a)) i b st) :=
  completes_of_putSlot (x := some (triedAim a)) (completes_complete ..)

theorem dispatch_of_spent {s : State} {i : SlotNo} {a : Aim} {limit : Nat} (lim : LimitIs s limit a.target)
    (spent : limit < a.attempts) : dispatch s i a
      = complete (releaseAim (begun s i a)) i { a with state := .active } (a.lastStatus.getD .notFound) := by
  rw [dispatch_eq, retryLimitOf_eq lim, if_pos spent]

theorem dispatch_of_error {s : State} {i : SlotNo} {a : Aim} {limit : Nat} {st : Status}
    (lim : LimitIs s limit a.target) (left : a.attempts ≤ limit) (error : solveAim s a = .error st) :
    dispatch s i a = complete (releaseAim (begun s i a)) i (triedAim a) st := by
  rw [dispatch_eq, retryLimitOf_eq lim, if_neg (Nat.not_lt.2 left), error]

theorem dispatch_of_ok {s : State} {i : SlotNo} {a : Aim} {limit : Nat} {sol : Solution}
    (lim : LimitIs s limit a.target)
    (left : a.attempts ≤ limit) (solved : solveAim s a = .ok sol) :
    dispatch s i a = beginAttempt (begun s i a) i sol := by
  rw [dispatch_eq, retryLimitOf_eq lim, if_neg (Nat.not_lt.2 left), solved]

/-! ### The refusals of the solver (R6) -/

theorem tiltOf_eq_none_iff (x : Option TiltSample) : tiltOf x = none ↔ x = none ∨ x = some .overRange := by
  unfold tiltOf
  split
  · simp
  · next values =>
    simp only [true_iff]
    cases x with
    | none => exact .inl rfl
    | some x => cases x with
      | overRange => exact .inr rfl
      | values l t => exact absurd rfl (values l t)

theorem noTilt_iff (s : State) : NoTilt s ↔ tiltOf s.station.latest = none := (tiltOf_eq_none_iff _).symm

theorem solveAim_entry {s : State} {a : Aim} {id : Nat} {e : Entry} (target : a.target = .entry id)
    (found : lookup s id = some e) : solveAim s a
      = solveEntry s.station.state s.station.omega s.station.latest (rawNow s) e.azimuth e.zenith a.face := by
  simp only [solveAim, target, found]; rfl

theorem solveAim_direct {s : State} {a : Aim} {p : Pointing} {w n : Nat} (target : a.target = .direct p w n) :
    solveAim s a = solveDirect s.station.latest (rawNow s) p a.face := by
  simp only [solveAim, target]; rfl

/-- Settles O25, from the equation of a dispatch in each of its three endings. -/
theorem dispatchBeginsTheAttempt : Obligations.DispatchBeginsTheAttempt := by
  intro s i a limit held lim
  refine ⟨fun id target => by rw [target]; rfl, fun p w n target => by rw [target]; rfl,
    fun sol left drivable entry direct => ?_, fun last spent status => ?_, fun id left target => ?_,
    fun p w n left target => ?_⟩
  · have solved : solveAim s a = .ok sol := by
      cases target : a.target with
      | entry id =>
        rw [target] at lim
        obtain ⟨e, found, -⟩ := lim
        rw [solveAim_entry target found]; exact entry id e target found
      | direct p w n => rw [solveAim_direct target]; exact direct p w n target
    have drivable : Drivable (begun s i a) := by simpa [Drivable, begun] using drivable
    rw [dispatch_of_ok lim left solved, beginAttempt, commandMove_of_drivable (by exact drivable)]
    refine ⟨rfl, slotAt_putSlot_same .., fun j other => ?_, rfl, rfl, ?_, ?_⟩
    · exact (slotAt_putSlot_other _ _ other).trans (by simp [slotAt])
    · simp [moved, newMove, begun]
    · simp [moved, begun]
  · rw [dispatch_of_spent lim spent, status]; exact completes_begun ..
  · have limEntry := lim
    rw [target] at limEntry
    obtain ⟨e, found, -⟩ := limEntry
    refine ⟨fun unset => ?_, fun set noTilt => ?_⟩
    · rw [dispatch_of_error (st := .noOrientation) lim left (by simp [solveAim_entry target found, solveEntry, unset])]
      exact completes_begun ..
    · rw [dispatch_of_error (st := .outOfLevel) lim left
        (by simp [solveAim_entry target found, solveEntry, set, (noTilt_iff s).mp noTilt])]
      exact completes_begun ..
  · refine ⟨fun noTilt => ?_, fun tilted outside => ?_⟩
    · rw [dispatch_of_error (st := .outOfLevel) lim left
        (by simp [solveAim_direct target, solveDirect, (noTilt_iff s).mp noTilt])]
      exact completes_begun ..
    · obtain ⟨tilt, sample⟩ := Option.ne_none_iff_exists'.mp ((not_congr (noTilt_iff s)).mp tilted)
      rw [dispatch_of_error (st := .outOfReach) lim left
          (by simp [solveAim_direct target, solveDirect, sample, outside])]
      exact completes_begun ..

end Sys2Proof.Machine
end

section
/-! PROOFS. The ending of an attempt and its observation; cancelling (R76 to R82, R121 to R127). -/

namespace Sys2Proof.Machine
open Sys2Proof.Claims

/-! ### An entry changed in its way -/

theorem findWay_store {t : TableSet} {id : Nat} {w : Fin 4} {e : Entry} (found : findWay t id = some w)
    (same : e.id = id)
    (order : List (Fin 4)) : findWay { ways := t.ways.set w (some e), order := order } id = some w := by
  rw [← found]
  refine congrArg (fun test => allWays.find? test) (funext fun v => ?_)
  by_cases hv : v = w
  · subst hv
    obtain ⟨d, held, named⟩ := findWay_eq_some found
    simp [same, held, named]
  · have other : (t.ways.set w (some e))[v] = t.ways[v] :=
      Vector.getElem_set_ne _ _ (fun h => hv (Fin.ext h.symm))
    rw [other]

theorem locate_updateEntry {s : State} {id : Nat} {w : Fin 4} {e : Entry} (located : locate s id = some (w, e))
    {f : Entry → Entry} (same : (f e).id = e.id) : locate (updateEntry s id f) id = some (w, f e) := by
  obtain ⟨v, found, d, held, eq⟩ : ∃ v, findWay (setAt s (setOf id)) id = some v
      ∧ ∃ d, (setAt s (setOf id)).ways[v] = some d ∧ (v, d) = (w, e) := by
    simpa only [locate, Option.bind_eq_some_iff, Option.map_eq_some_iff] using located
  cases eq
  have named : e.id = id := (locate_eq_some located).2
  have update : updateEntry s id f = storeEntry s (setOf id) w (f e) := by simp [updateEntry, located]
  simp only [update, storeEntry, locate, setAt_putSet_same, findWay_store found (same.trans named), Option.bind_some]
  simp

theorem lookup_reportModification (s : State) (id j : Nat) (cause : ChangeCause) :
    lookup (reportModification s id cause) j = lookup s j := by
  simp only [lookup, locate, setAt, reportModification_keeps]

theorem handObservation_entry {s : State} {id : Nat} {w : Fin 4} {e : Entry} (o : Observation)
    (located : locate s id = some (w, e)) : handObservation s (.entry id) o
      = reportModification (updateEntry s id (applyObservation o)) id .observed := by
  simp [handObservation, observeEntry, lookup, located]

/-- R124: an observation update leaves the entry its retry limit. -/
theorem limitIs_handObservation {s : State} {limit : Nat} {x : AimTarget} (h : LimitIs s limit x) (o : Observation) :
    LimitIs (handObservation s x o) limit x := by
  cases x with
  | direct p w n => exact h
  | entry id =>
    obtain ⟨e, found, rfl⟩ := h
    obtain ⟨⟨w, d⟩, located, rfl⟩ := Option.map_eq_some_iff.mp found
    refine ⟨applyObservation o d, ?_, ?_⟩
    · rw [handObservation_entry o located, lookup_reportModification, lookup,
        locate_updateEntry located (applyObservation_fields o d).1]
      rfl
    · simp only [applyObservation]; split <;> rfl

/-! ### The course of an aim -/

theorem isRetryable_iff (st : Status) : isRetryable st = true ↔ st = .notFound ∨ st = .obstructed := by
  simp [isRetryable]

/-- R184: an aim of a round that is stopping. -/
def IsStopping (s : State) (a : Aim) (n : RoundNo) : Prop :=
  a.origin = .round n ∧ (roundAt s n).state = .running ∧ (roundAt s n).stopping = true

theorem stoppingRound_of {s : State} {a : Aim} {n : RoundNo} (h : IsStopping s a n) : stoppingRound s a = some n := by
  obtain ⟨origin, running, stopping⟩ := h
  simp [stoppingRound, origin, running, stopping]

theorem stoppingRound_none {s : State} {a : Aim} (h : ∀ n, ¬ IsStopping s a n) : stoppingRound s a = none := by
  cases origin : a.origin with
  | round n => simpa [stoppingRound, origin, IsStopping] using h n
  | _ => simp [stoppingRound, origin]

/-- R76: the test on which an aim gets another attempt. -/
def Retried (limit : Nat) (a : Aim) (st : Status) : Prop := (st = .notFound ∨ st = .obstructed) ∧ a.attempts ≤ limit

theorem retry_iff {s : State} {limit : Nat} {a : Aim} (lim : LimitIs s limit a.target) (st : Status) :
    (isRetryable st && a.attempts < retryLimitOf (releaseAim s) a.target + 1) = true ↔ Retried limit a st := by
  have same : retryLimitOf (releaseAim s) a.target = limit := retryLimitOf_eq (by exact lim)
  rw [Bool.and_eq_true, isRetryable_iff, same, decide_eq_true_iff, Nat.lt_succ_iff]; rfl

theorem decideCourse_of_retry {s : State} {i : SlotNo} {a : Aim} {st : Status} {limit : Nat}
    (lim : LimitIs s limit a.target)
    (retried : Retried limit a st) (goes : ∀ n, ¬ IsStopping s a n) : decideCourse s i a st
      = putSlot (releaseAim s) i (some { a with
          state := .retryWait (s.elapsed + 640 * s.settings.retryDelay), lastStatus := some st }) := by
  have none : stoppingRound (releaseAim s) a = none := stoppingRound_none goes
  simp only [decideCourse, (retry_iff lim st).mpr retried, if_true, none]; rfl

theorem decideCourse_of_stopping {s : State} {i : SlotNo} {a : Aim} {st : Status} {limit : Nat} {n : RoundNo}
    (lim : LimitIs s limit a.target) (retried : Retried limit a st) (stops : IsStopping s a n) : decideCourse s i a st
      = putSlot (putRound (releaseAim s) n { roundAt s n with skipped := min 255 ((roundAt s n).skipped + 1) })
          i none := by
  have found : stoppingRound (releaseAim s) a = some n := stoppingRound_of stops
  simp only [decideCourse, (retry_iff lim st).mpr retried, if_true, found]; rfl

theorem decideCourse_of_final {s : State} {i : SlotNo} {a : Aim} {st : Status} {limit : Nat}
    (lim : LimitIs s limit a.target)
    (final : ¬ Retried limit a st) : decideCourse s i a st = complete (releaseAim s) i a st :=
  if_neg ((not_congr (retry_iff lim st)).mpr final)

/-- R125: the part and the aim with what an attempt hands over. -/
def handedOver (s : State) (t : Attempt) (a : Aim) (st : Status) (d : Option Nat) : State × Aim :=
  if t.reachedSensing then
    (handObservation s a.target (observationOf s t a st d),
        { a with lastObservation := some (observationOf s t a st d) })
  else (s, a)

theorem endAttempt_eq {s : State} {t : Attempt} {a : Aim} (attempt : s.attempt = some t)
    (slot : slotAt s t.slot = some a) (st : Status) (d : Option Nat) : endAttempt s st d = decideCourse
      { (handedOver s t a st d).1 with attempt := none } t.slot (handedOver s t a st d).2 st := by
  simp only [endAttempt, attempt, slot, handedOver]
  split <;> rfl

/-- R76: the three courses of an aim, where the attempt hands over `v` and `b` for the part `s` and its aim `a`. -/
theorem decideCourse_handed {s v : State} {a b : Aim} {st : Status} {limit : Nat} (i : SlotNo)
    (lim : LimitIs v limit b.target) (rounds : v.rounds = s.rounds) (elapsed : v.elapsed = s.elapsed)
    (settings : v.settings = s.settings) (grant : v.grant = s.grant) (origin : b.origin = a.origin)
    (attempts : b.attempts = a.attempts) :
    let u : State := { v with attempt := none, grant := { s.grant with active := none } }
    (Retried limit a st → (∀ n, ¬ IsStopping s a n) → decideCourse { v with attempt := none } i b st
      = putSlot u i (some { b with
          state := .retryWait (s.elapsed + 640 * s.settings.retryDelay), lastStatus := some st }))
    ∧ (∀ n, Retried limit a st → IsStopping s a n → decideCourse { v with attempt := none } i b st
      = putSlot (putRound u n { roundAt s n with skipped := min 255 ((roundAt s n).skipped + 1) }) i none)
    ∧ (¬ Retried limit a st → Completes u i b st (decideCourse { v with attempt := none } i b st)) := by
  have retried : Retried limit b st ↔ Retried limit a st := by rw [Retried, attempts, Retried]
  have round (n : RoundNo) : roundAt { v with attempt := none } n = roundAt s n := by simp only [roundAt, rounds]
  have stopping (n : RoundNo) : IsStopping { v with attempt := none } b n ↔ IsStopping s a n := by
    rw [IsStopping, origin, round, IsStopping]
  have released : releaseAim { v with attempt := none }
      = { v with attempt := none, grant := { s.grant with active := none } } := by
    simp only [releaseAim, grant]
  simp only [← released]
  refine ⟨fun again goes => ?_, fun n again stops => ?_, fun final => ?_⟩
  · rw [decideCourse_of_retry (by exact lim) (retried.mpr again) fun n => (not_congr (stopping n)).mpr (goes n)]
    simp only [elapsed, settings]
  · rw [decideCourse_of_stopping (by exact lim) (retried.mpr again) ((stopping n).mpr stops), round]
  · rw [decideCourse_of_final (by exact lim) ((not_congr retried).mpr final)]; exact completes_complete ..

/-- Settles O26, from the courses of an aim on what the attempt hands over. -/
theorem attemptEndsWithItsRecord : Obligations.AttemptEndsWithItsRecord := by
  intro s t a st d limit attempt slot lim
  rw [endAttempt_eq attempt slot]
  cases sensing : t.reachedSensing with
  | true =>
    simp only [handedOver, sensing, if_true]
    exact decideCourse_handed (a := a) _ (limitIs_handObservation lim _) (by simp) (by simp) (by simp) (by simp) rfl rfl
  | false =>
    simp only [handedOver, sensing]
    exact decideCourse_handed (a := a) _ lim rfl rfl rfl rfl rfl rfl

/-! ### The observation -/

theorem isSuccess_iff (st : Status) : isSuccess st = true ↔ st = .locked ∨ st = .lockedNoRange := by simp [isSuccess]

theorem clampStoredZenith_eq (z : Int) : clampStoredZenith z = max 250000 (min 1750000 z) := by
  unfold clampStoredZenith; (repeat' split) <;> omega

/-- R124: the entry with its update, whether a direction was learned or not. -/
theorem applyObservation_eq (o : Observation) (e : Entry) : applyObservation o e = observedEntry e o := by
  have count : (if isSuccess o.status then 0 else saturate (e.missCount + 1))
      = if o.status = .locked ∨ o.status = .lockedNoRange then 0 else min 255 (e.missCount + 1) :=
    ite_congr (propext (isSuccess_iff _)) (fun _ => rfl) (fun _ => rfl)
  cases learned : o.flags.learned with
  | false => simp [applyObservation, observedEntry, learned, count, lastObservationOf]
  | true =>
    cases direction : o.direction with
    | none => simp [applyObservation, observedEntry, learned, direction, count, lastObservationOf]
    | some d =>
      simp [applyObservation, observedEntry, learned, direction, count, lastObservationOf, clampStoredZenith_eq]

theorem learned_iff (s : State) (a : Aim) (st : Status) (lock : Option LockResult) :
    (learnAsked a st && lock.any (mayLearn s)) = true ↔ a.learn = true ∧ (st = .locked ∨ st = .lockedNoRange)
      ∧ ∃ k, lock = some k ∧ k.orientation = .set ∧ s.station.state = .set ∧ s.station.omega = k.omega := by
  simp only [learnAsked, mayLearn, Bool.and_eq_true, isSuccess_iff, Option.any_eq_true, decide_eq_true_eq, and_assoc]

theorem learnSkipped_iff (s : State) (a : Aim) (st : Status) (lock : Option LockResult) :
    (learnAsked a st && !lock.any (mayLearn s)) = true ↔ a.learn = true ∧ (st = .locked ∨ st = .lockedNoRange)
      ∧ ¬ ∃ k, lock = some k ∧ k.orientation = .set ∧ s.station.state = .set ∧ s.station.omega = k.omega := by
  simp only [learnAsked, mayLearn, Bool.and_eq_true, isSuccess_iff, Bool.not_eq_true', ← Bool.not_eq_true,
    Option.any_eq_true, decide_eq_true_eq, and_assoc]

theorem targetEntry_eq_some {s : State} {x : AimTarget} {e : Entry} :
    targetEntry s x = some e ↔ ∃ id, x = .entry id ∧ lookup s id = some e := by
  cases x <;> simp [targetEntry]

theorem drift_iff (s : State) (a : Aim) (st : Status) (lock : Option LockResult) :
    (observationFlags s a st lock).drift = true ↔ ∃ id e k dir, a.target = .entry id ∧ lookup s id = some e
      ∧ lock = some k ∧ k.direction = some dir
      ∧ (e.tolerance < (dev dir.azimuth e.azimuth).natAbs ∨ e.tolerance < (dir.zenith - e.zenith).natAbs) := by
  simp only [observationFlags]
  constructor
  · intro h
    split at h
    · next e d entry direction =>
      obtain ⟨id, target, found⟩ := targetEntry_eq_some.mp entry
      obtain ⟨k, held, given⟩ := Option.bind_eq_some_iff.mp direction
      exact ⟨id, e, k, d, target, found, held, given, by simpa [drifts] using h⟩
    · cases h
  · rintro ⟨id, e, k, d, target, found, held, given, apart⟩
    have entry : targetEntry s a.target = some e := targetEntry_eq_some.mpr ⟨id, target, found⟩
    have direction : lock.bind (·.direction) = some d := Option.bind_eq_some_iff.mpr ⟨k, held, given⟩
    simpa [entry, direction, drifts] using apart

/-- Settles O27: the fields of an observation by the lock result, its flags, and the update of the entry. -/
theorem observationIsBuilt : Obligations.ObservationIsBuilt := by
  intro s t a st d
  refine ⟨⟨rfl, rfl, rfl, rfl⟩, fun k lock => ?_, fun lock => ⟨?_, ?_, ?_, fun noTilt => ?_, fun l tr sample => ?_,
    fun last => ?_, fun ambiguous unsteady => ?_⟩, ?_, drift_iff .., learned_iff .., learnSkipped_iff ..,
    fun id way e target located => ?_, fun p w n target => by rw [target]; rfl⟩
  · simp [observationOf, residualOf, lock]
  · simp [observationOf, lock]
  · simp [observationOf, lock]
  · simp [observationOf, lock]
  · simpa [observationOf, lock] using (noTilt_iff s).mp noTilt
  · simp [observationOf, lock, sample, tiltOf]
  · simpa [observationOf, residualOf, lock] using fun h1 h2 => absurd last (by simp [h1, h2])
  · simp [observationOf, residualOf, lock, ambiguous, unsteady]
  · simp [observationOf, observationFlags, Option.any_eq_true]
  · simp only [target, handObservation_entry _ located, updateEntry, located, applyObservation_eq]; rfl

/-! ### CANCEL_AIM -/

theorem ownAim_iff (p : Port) (tag : Byte) (a : Aim) :
    ownAim p tag a = true ↔ a.origin = .port ∧ a.port = p ∧ a.tag = some tag := by
  simp [ownAim, and_assoc]

theorem aimNamed_of_free {s : State} {f : Frame} (h : TagFree s f) : aimNamed s f.port f.tag = none := by
  have none : allSlots.find? (fun i => (slotAt s i).any (ownAim f.port f.tag)) = none := by
    refine List.find?_eq_none.mpr fun i _ hit => ?_
    obtain ⟨a, held, own⟩ := (Option.any_eq_true _ _).mp hit
    exact h i a held ((ownAim_iff ..).mp own)
  simp [aimNamed, none]

theorem aimNamed_of_names {s : State} {f : Frame} {i : SlotNo} {a : Aim} (h : NamesAim s f i a) :
    aimNamed s f.port f.tag = some (i, a) := by
  obtain ⟨held, origin, port, tag, only⟩ := h
  have hit : (slotAt s i).any (ownAim f.port f.tag) = true := by simp [held, ownAim, origin, port, tag]
  have hits : (allSlots.find? fun i => (slotAt s i).any (ownAim f.port f.tag)).isSome = true :=
    List.find?_isSome.mpr ⟨i, mem_allSlots i, hit⟩
  obtain ⟨j, found⟩ := Option.isSome_iff_exists.mp hits
  have passes : (slotAt s j).any (ownAim f.port f.tag) = true := by have := List.find?_some found; exact this
  obtain ⟨b, there, own⟩ := (Option.any_eq_true _ _).mp passes
  obtain ⟨origin', port', tag'⟩ := (ownAim_iff ..).mp own
  have same : j = i := only j b there origin' port' tag'
  subst same
  simp [aimNamed, found, held]

theorem cancelledReply_of_names {s : State} {f : Frame} {i : SlotNo} {a : Aim} (h : NamesAim s f i a) : cancelledReply a
    = { kind := .observation, origin := .tag f.tag, status := .cancelled,
        body := observationBody a.target a.attempts none } := by
  obtain ⟨-, -, -, tag, -⟩ := h
  simp [cancelledReply, tag]

theorem abandonAttempt_eq (s : State) : abandonAttempt s = { s with
    drive := stoppedDrive s, distance := abandonedBy .acquisition s.distance, grant := { s.grant with active := none },
    attempt := none } := by
  simp only [abandonAttempt, stopDrive_eq]; rfl

/-- Settles O28: the aim that a tag names, by its state. -/
theorem cancelRemovesTheAim : Obligations.CancelRemovesTheAim := by
  intro f s ask
  have run : exec (.cancelAim f) s = .next (cancelAim (taken s f) f) := request_immediate_of_mayAsk _ ask (by decide)
  rw [run]
  refine ⟨fun unused => ?_, fun i a names => ?_⟩
  · have none : aimNamed (taken s f) f.port f.tag = none := aimNamed_of_free (by exact unused)
    simp only [cancelAim, none]; rfl
  · have named : aimNamed (taken s f) f.port f.tag = some (i, a) := aimNamed_of_names (by exact names)
    refine ⟨fun r held => ?_, fun waits => ?_, fun active => ?_⟩
    · simp only [cancelAim, named, held]; rfl
    · rcases waits with waits | ⟨due, waits⟩ <;>
        simp only [cancelAim, named, waits, removeCancelled, cancelledReply_of_names names] <;> rfl
    · simp only [cancelAim, named, active, removeCancelled, cancelledReply_of_names names, abandonAttempt_eq]; rfl

end Sys2Proof.Machine
end

section
/-! PROOFS. Tracks: start and stop, the ending, stepping aside and resuming (R73, R74, R133, R134, R144 to R148). -/

namespace Sys2Proof.Machine
open Sys2Proof.Claims

/-! ### Start and stop -/

theorem trackStatus_of_running {s : State} {t : Track} (p : Port) (x : TrackFields) (track : s.track = some t) :
    trackStatus s p x = some (if t.owner = p then .busy else .axesHeld) := by
  simp [trackStatus, track]

theorem trackStatus_of_none {s : State} (p : Port) (x : TrackFields) (track : s.track = none) : trackStatus s p x
    = if lookup s x.target = none then some .noSuchTarget
      else if s.station.state = .unset then some .noOrientation else none := by
  simp [trackStatus, track]

theorem startTrack_of_status {s : State} {f : Frame} {x : TrackFields} {st : Status}
    (status : trackStatus s f.port x = some st) : startTrack s f x = refuse s f st := by
  simp [startTrack, status]

theorem startTrack_of_fit {s : State} {f : Frame} {x : TrackFields} (status : trackStatus s f.port x = none) :
    startTrack s f x = afterEvent (acceptTrack s f x) := by
  simp [startTrack, status]

theorem trackFieldsOf_of_range {b : List Byte} {interval : Interval} (low : 1 ≤ word16At b 0)
    (high : word16At b 0 ≤ 65534) (code : intervalOf (byteAt b 2) = some interval) (bit : byteAt b 3 ≤ 1) :
    trackFieldsOf b = some { target := word16At b 0, interval := interval, range := byteAt b 3 = 1 } := by
  simp [trackFieldsOf, idOf_of_range low high, code, (rangeOf_eq_some_iff ..).mpr ⟨rfl, Nat.zero_le _, bit⟩]

/-- Settles O30: the checks of a start, its acceptance, and the two answers of a stop. -/
theorem tracksStartAndStop : Obligations.TracksStartAndStop := by
  intro f s
  refine ⟨fun interval ask low high code bit => ?_, fun ask => ?_⟩
  · have run : exec (.startTrack f) s = .next (startTrack (taken s f) f
        { target := word16At f.body 0, interval := interval, range := byteAt f.body 3 = 1 }) :=
      (request_of_mayDefer _ ask (by decide)).trans (by rw [trackFieldsOf_of_range low high code bit]; rfl)
    have none (track : s.track = none) := trackStatus_of_none (s := taken s f) f.port
      { target := word16At f.body 0, interval := interval, range := byteAt f.body 3 = 1 } track
    have some {t : Track} (track : s.track = some t) := trackStatus_of_running (s := taken s f) f.port
      { target := word16At f.body 0, interval := interval, range := byteAt f.body 3 = 1 } track
    rw [run]
    refine ⟨fun track present known => ?_, fun t track own => ?_, fun t track other => ?_, fun track absent => ?_,
      fun track present unknown => ?_⟩
    · have known : (taken s f).station.state ≠ .unset := known
      rw [startTrack_of_fit (by rw [none track]; simp [present, known])]; rfl
    · exact congrArg _ (startTrack_of_status (by rw [some track, if_pos own]))
    · exact congrArg _ (startTrack_of_status (by rw [some track, if_neg other]))
    · exact congrArg _ (startTrack_of_status (by rw [none track]; simp [absent]))
    · have unknown : (taken s f).station.state = .unset := unknown
      exact congrArg _ (startTrack_of_status (by rw [none track]; simp [present, unknown]))
  · have run : exec (.stopTrack f) s = .next (stopTrack (taken s f) f) := request_immediate_of_mayAsk _ ask (by decide)
    rw [run]
    refine ⟨fun t track own => ?_, fun none => ?_⟩
    · have own : (taken s f).track.any (fun t => t.owner = f.port) = true := by
        show s.track.any _ = true
        simp [track, own]
      rw [stopTrack, if_pos own]; rfl
    · have none : ¬ (taken s f).track.any (fun t => t.owner = f.port) = true := by
        show ¬ s.track.any _ = true
        simpa [Option.any_eq_true] using none
      rw [stopTrack, if_neg none]; rfl

/-! ### The ending -/

theorem trackStopped_of_own {s : State} {m : Move} (moving : s.drive = .moving m) (own : m.commander = some .track)
    (going : m.stopping = false) : trackStopped s = .moving (stoppedMove s m) := by
  simp [trackStopped, stoppedDrive, moving, own, going]

theorem trackStopped_of_other {s : State} (h : ∀ m, s.drive = .moving m → m.commander ≠ some .track) :
    trackStopped s = s.drive := by
  cases drive : s.drive with
  | moving m => simp [trackStopped, drive, h m drive]
  | _ => simp [trackStopped, drive]

/-- Settles O31, from the equation of `releaseTrack`. -/
theorem trackEndReleasesTheAxes : Obligations.TrackEndReleasesTheAxes := by
  intro s t cause track
  rw [endTrack_silent track, endTrack_some track, releaseTrack_eq]
  exact ⟨rfl, rfl, rfl, fun m moving own going => trackStopped_of_own moving own going, trackStopped_of_other, rfl, rfl⟩

/-! ### Stepping aside and resuming -/

/-- R71: an URGENT aim waits exactly when the choice falls on one. -/
theorem urgentWaits_iff (s : State) : UrgentWaits s ↔ ∃ i a, bestQueued s = some (i, a) ∧ a.level = .urgent := by
  have best := bestOf_bestQueued (decidedByBefore_rank s)
  constructor
  · rintro ⟨i, a, held, queued, urgent⟩
    cases chosen : bestQueued s with
    | none =>
      rw [chosen] at best
      exact absurd queued (best i (mem_allSlots i) a held)
    | some x =>
      rw [chosen] at best
      obtain ⟨_, _, most⟩ := best
      have rank := most i (mem_allSlots i) a held queued
      refine ⟨x.1, x.2, rfl, ?_⟩
      cases level : x.2.level <;> simp_all [Level.rank]
  · rintro ⟨i, a, chosen, urgent⟩
    rw [chosen] at best
    obtain ⟨held, queued, _⟩ := best
    exact ⟨i, a, held, queued, urgent⟩

theorem arbitrate_of_holding {s : State} (idle : s.grant.active = none) (holds : s.grant.track = .holding false) :
    arbitrate s = if (bestQueued s).any (fun c => c.2.level = .urgent) then some (suspendTrack s) else none := by
  unfold arbitrate; simp [idle, holds]

theorem any_urgent_iff (s : State) : (bestQueued s).any (fun c => c.2.level = .urgent) = true ↔ UrgentWaits s := by
  simp only [urgentWaits_iff, Option.any_eq_true, Prod.exists, decide_eq_true_eq]

theorem arbitrate_of_aside_urgent {s : State} {i : SlotNo} {a : Aim} (idle : s.grant.active = none)
    (holds : s.grant.track = .holding true) (ready : Ready s) (chosen : bestQueued s = some (i, a))
        (urgent : a.level = .urgent) :
    arbitrate s = some (dispatch s i a) := by
  unfold arbitrate; simp [idle, holds, chosen, urgent, (mayChoose_iff s).mpr ready]

theorem arbitrate_of_aside {s : State} (idle : s.grant.active = none) (holds : s.grant.track = .holding true)
    (none : ¬ UrgentWaits s) : arbitrate s = some (resumeTrack s) := by
  unfold arbitrate
  cases chosen : bestQueued s with
  | none => simp [idle, holds]
  | some x =>
    have calm : x.2.level ≠ .urgent := fun urgent => none ((urgentWaits_iff s).mpr ⟨x.1, x.2, chosen, urgent⟩)
    simp [idle, holds, calm]

theorem resumeTrack_of_no_anchor {s : State} {t : Track} {e : Entry} (track : s.track = some t)
    (found : lookup s t.target = some e) (drivable : Drivable s) (none : t.anchor = none) :
    resumeTrack s = acquired { s with grant := { s.grant with track := .holding false } } t e := by
  simp only [resumeTrack, track, none]
  exact trackAcquire_eq (by exact found) (by exact drivable)

theorem trackWindow_of_lookup {s : State} {t : Track} {e : Entry} (found : lookup s t.target = some e) :
    trackWindow s t = e.window := by
  simp [trackWindow, found]

theorem resumeTrack_of_anchor {s : State} {t : Track} {e : Entry} {a : Anchor} (track : s.track = some t)
    (found : lookup s t.target = some e) (drivable : Drivable s) (anchor : t.anchor = some a) : resumeTrack s
      = moved { s with
          grant := { s.grant with track := .holding false },
          track := some { t with state := .searching, centreLook := true, cursor := some (ringStart e.window) } }
        a.raw .track := by
  simp only [resumeTrack, track, anchor]
  rw [trackWindow_of_lookup (by exact found), commandMove_of_drivable (by exact drivable)]
  rfl

/-- Settles O32: the arbiter's acts while a track holds the axes. -/
theorem trackStepsAside : Obligations.TrackStepsAside := by
  intro s t idle track
  refine ⟨fun holds urgent => ?_, fun holds calm => ?_, fun holds ready urgent => ?_,
      fun holds calm e found drivable => ?_⟩
  · rw [arbitrate_of_holding idle holds, if_pos ((any_urgent_iff s).mpr urgent), suspendTrack_eq track]
  · rw [arbitrate_of_holding idle holds, if_neg ((not_congr (any_urgent_iff s)).mpr calm)]
  · obtain ⟨i, a, chosen, urgent⟩ := (urgentWaits_iff s).mp urgent
    exact ⟨i, a, chosen, urgent, arbitrate_of_aside_urgent idle holds ready chosen urgent⟩
  · rw [arbitrate_of_aside idle holds calm]
    exact ⟨fun none => congrArg _ (resumeTrack_of_no_anchor track found drivable none),
      fun a anchor => congrArg _ (resumeTrack_of_anchor track found drivable anchor)⟩

end Sys2Proof.Machine
end

section
/-! PROOFS. The station: SET_ORIENTATION, checks, and the readings of the part's records (R19, R20, R156 to R163,
R202). -/

namespace Sys2Proof.Machine
open Sys2Proof.Claims

/-! ### SET_ORIENTATION -/

@[simp] theorem station_taken (s : State) (f : Frame) : (taken s f).station = s.station := rfl

theorem angleOf_of_le {n : Nat} (h : n ≤ 3999999) : angleOf n = some (n : Int) := if_pos h

theorem exec_setOrientation_of_mayAsk {s : State} {f : Frame} (ask : MayAsk s f (.group .station) [4])
    (range : word32At f.body 0 ≤ 3999999) :
    exec (.setOrientation f) s = .next (setOrientation (taken s f) f (word32At f.body 0)) :=
  (request_immediate_of_mayAsk _ ask (by decide)).trans (by rw [angleOf_of_le range]; rfl)

/-- Settles O33: the refusals in their order, then `orient`. -/
theorem setOrientationTakesTheTilt : Obligations.SetOrientationTakesTheTilt := by
  intro f s
  refine ⟨fun denied => request_immediate_of_denied _ denied (by decide), fun ask above => ?_, fun ask range => ?_⟩
  · refine (request_immediate_of_mayAsk _ ask (by decide)).trans ?_
    rw [(angleOf_eq_none_iff _).mpr above]; rfl
  · rw [exec_setOrientation_of_mayAsk ask range]
    refine ⟨fun checks => ?_, fun free noTilt => ?_, fun l t free sample => ?_⟩
    · have checks : (taken s f).station.check.isSome = true := Option.isSome_iff_ne_none.mpr checks
      rw [setOrientation, if_pos checks]; rfl
    · have free : ¬ (taken s f).station.check.isSome = true := by simpa using free
      have noTilt : tiltOf (taken s f).station.latest = none := (tiltOf_eq_none_iff _).mpr noTilt
      rw [setOrientation, if_neg free, noTilt]; rfl
    · have free : ¬ (taken s f).station.check.isSome = true := by simpa using free
      have tilt : tiltOf (taken s f).station.latest = some { l := l, t := t } := by
        show tiltOf s.station.latest = _
        rw [sample]; rfl
      rw [setOrientation, if_neg free, tilt]
      simp only [orient, angle, Int.toNat_natCast]; rfl

/-! ### CHECK_ORIENTATION -/

theorem yesNoOf_of_le {n : Nat} (h : n ≤ 1) : yesNoOf n = some (decide (n = 1)) := by
  rcases n with _ | _ | n
  · rfl
  · rfl
  · omega

theorem checkOrientation_of_status {s : State} {f : Frame} {adopt : Bool} {st : Status}
    (status : checkStatus s (referencesOf s) = some st) : checkOrientation s f adopt = refuse s f st := by
  simp [checkOrientation, status]

/-- Settles O34: the refusals in their order, then the aims in table order. -/
theorem checkPlacesOneAimEach : Obligations.CheckPlacesOneAimEach := by
  intro f s ask bit
  have run : exec (.checkOrientation f) s = .next (checkOrientation (taken s f) f (decide (byteAt f.body 0 = 1))) :=
    (request_of_mayDefer _ ask (by decide)).trans (by rw [yesNoOf_of_le bit]; rfl)
  have status : checkStatus (taken s f) (referencesOf (taken s f)) = checkStatus s (referencesOf s) := rfl
  rw [run]
  refine ⟨fun checks => ?_, fun free unset => ?_, fun free known none => ?_, fun free known some full => ?_,
    fun free known some room => ?_⟩
  · exact congrArg _ (checkOrientation_of_status
      (by rw [status, checkStatus, if_pos (Option.isSome_iff_ne_none.mpr checks)]))
  · exact congrArg _ (checkOrientation_of_status (by rw [status]; simp [checkStatus, free, unset]))
  · exact congrArg _ (checkOrientation_of_status (by rw [status]; simp [checkStatus, free, known, none]))
  · exact congrArg _ (checkOrientation_of_status (by rw [status]; simp [checkStatus, free, known, some, full]))
  · have fit : checkStatus (taken s f) (referencesOf (taken s f)) = .none := by
      rw [status]; simp [checkStatus, free, known, some, room]
    simp only [checkOrientation, fit]; rfl

/-! ### The conclusion of a check -/

theorem settleItem_eq (s : State) (id : Nat) (st : Status) (observed : Option Int) (items : List CheckItem) :
    items.map (settleItem id st observed (lookup s id)) = settled s items id st observed := by
  refine List.map_congr_left fun i _ => ?_
  unfold settleItem
  refine ite_congr rfl (fun _ => ?_) fun _ => rfl
  by_cases locked : st = .locked
  · subst locked
    cases observed <;> cases lookup s id <;> rfl
  · rw [if_neg locked]
    split
    · exact absurd rfl locked
    · rfl

/-- R160: the part with a check's items settled. -/
def checkSettled (s : State) (c : Check) (items : List CheckItem) : State :=
  { s with station := { s.station with check := some { c with items := items } } }

theorem checkAimCompletes_eq {s : State} {c : Check} (check : s.station.check = some c) (id : Nat) (st : Status)
    (observed : Option Int) : checkAimCompletes s id st observed
      = if (settled s c.items id st observed).all (fun i => i.outcome.isSome)
        then concludeCheck (checkSettled s c (settled s c.items id st observed))
          { c with items := settled s c.items id st observed }
        else checkSettled s c (settled s c.items id st observed) := by
  simp only [checkAimCompletes, check, settleItem_eq]; rfl

theorem withinTolerance_iff (i : CheckItem) :
    withinTolerance i = true ↔ ∀ x tol, i.deviation = some (x, tol) → x.natAbs ≤ tol := by
  rcases h : i.deviation with _ | ⟨x, tol⟩
  · simp [withinTolerance, h]
  · simp [withinTolerance, h]

/-- R161: no deviation and no usable tilt give no result. -/
theorem checkResult_incomplete {s : State} {c : Check} (h : deviations c.items = [] ∨ NoTilt s) :
    checkResult s c = .incomplete := by
  have same : deviationsOf c.items = deviations c.items := rfl
  unfold checkResult
  rcases h with h | h
  · simp [same, h]
  · simp [(noTilt_iff s).mp h]

/-- R161: the result of a check with deviations and a usable tilt. -/
theorem checkResult_of_tilt {s : State} {c : Check} {l t : Int} (some : deviations c.items ≠ [])
    (sample : s.station.latest = .some (.values l t)) : checkResult s c
      = if c.items.all withinTolerance then .confirmed
        else if c.adopt && 2 ≤ (deviations c.items).length
          && spread (deviations c.items) ≤ s.settings.adoptLimit then .adopted
        else .rejected := by
  have same : deviationsOf c.items = deviations c.items := rfl
  simp only [checkResult, same, sample, tiltOf]
  simp [some]

/-- R161: the record and the station of a result that is known. -/
theorem concludeCheck_eq {s : State} {c : Check} {result : Status} (h : checkResult s c = result) : concludeCheck s c
    = postReply (applyCheck s c result) c.port (checkRecord c c.items result s.station.omega
        (applyCheck s c result).station.omega (applyCheck s c result).station.state) c.counted := by
  subst h; rfl

theorem station_applyCheck_rejected (s : State) (c : Check) :
    (applyCheck s c .rejected).station = { s.station with state := .suspect, check := none } := by
  simp only [applyCheck]; split <;> rfl

/-! ### The mean and the spread (R19, R20) -/

theorem spread_eq {ds : List Int} (h : ds ≠ []) :
    ∃ high ∈ ds, ∃ low ∈ ds, spread ds = high - low ∧ ∀ x ∈ ds, low ≤ x ∧ x ≤ high := by
  cases ds with
  | nil => exact absurd rfl h
  | cons d ds =>
    obtain ⟨highMem, high⟩ := List.max?_eq_some_iff.mp (List.max?_cons' (x := d) (xs := ds))
    obtain ⟨lowMem, low⟩ := List.min?_eq_some_iff.mp (List.min?_cons' (x := d) (xs := ds))
    exact ⟨_, highMem, _, lowMem, rfl, fun x hx => ⟨low x hx, high x hx⟩⟩

/-- Settles O35: the items, then each result of a check with what it writes. -/
theorem checkConcludes : Obligations.CheckConcludes := by
  refine ⟨fun s c id st observed check => ?_, fun ds some => ⟨rfl, spread_eq some⟩⟩
  rw [checkAimCompletes_eq check]
  intro items ds after inside agree record
  refine ⟨fun pends => ?_, fun done => ?_⟩
  · have open_ : ¬ items.all (fun i => i.outcome.isSome) = true := by
      obtain ⟨i, mem, none⟩ := pends
      exact fun all => by simpa [none] using List.all_eq_true.mp all i mem
    exact if_neg open_
  have closed : items.all (fun i => i.outcome.isSome) = true :=
    List.all_eq_true.mpr fun i mem => Option.isSome_iff_ne_none.mpr (done i mem)
  have concluded : after = concludeCheck (checkSettled s c items) { c with items := items } := if_pos closed
  rw [concluded]
  refine ⟨fun without => ?_, fun l t some sample => ?_⟩
  · rw [concludeCheck_eq (checkResult_incomplete (by exact without))]; rfl
  have result := checkResult_of_tilt (s := checkSettled s c items) (c := { c with items := items }) some sample
  have tilt : tiltOf s.station.latest = .some { l := l, t := t } := by rw [sample]; rfl
  have all : items.all withinTolerance = true ↔ inside := by
    simp only [List.all_eq_true, withinTolerance_iff]; rfl
  have adopts : (c.adopt && 2 ≤ ds.length && spread ds ≤ s.settings.adoptLimit) = true ↔ agree := by
    simp only [Bool.and_eq_true, decide_eq_true_eq, and_assoc]; rfl
  refine ⟨fun yes => ?_, fun no agreed => ?_, fun no apart => ?_⟩
  · rw [concludeCheck_eq (result.trans (if_pos (all.mpr yes)))]
    simp only [applyCheck, checkSettled, tilt]; rfl
  · rw [concludeCheck_eq (result.trans ((if_neg ((not_congr all).mpr no)).trans (if_pos (adopts.mpr agreed))))]
    simp only [applyCheck, checkSettled, tilt]; rfl
  · rw [concludeCheck_eq (result.trans ((if_neg ((not_congr all).mpr no)).trans
      (if_neg ((not_congr adopts).mpr apart))))]
    rw [station_applyCheck_rejected]; rfl

/-! ### Readings -/

theorem mayAsk_always {s : State} {f : Frame} {ls : List Nat} (complete : f.complete = true)
    (room : (portRecord s f.port).replies.length < 8) (length : f.body.length ∈ ls) : MayAsk s f .always ls :=
  ⟨complete, length, room, rfl⟩

theorem statusBody_taken (s : State) (f : Frame) : statusBody (taken s f) f.port = statusBody s f.port := by
  have count : openCount (taken s f) f.port = openCount s f.port := by
    simp only [openCount, portRecord_taken_same]; rfl
  simp only [statusBody, count, portRecord_taken_same]; rfl

theorem readStatus_taken (s : State) (f : Frame) : readStatus (taken s f) f
    = appendReply (setPort s f.port { portRecord s f.port with notices := 0#10, out := bytesOut f 0x5A#8 }) f.port
        (doneReply f.tag .ok (statusBody s f.port)) := by
  rw [readStatus, statusBody_taken, modPort_eq_setPort, portRecord_taken_same, answer]
  exact congrArg (fun t => appendReply t _ _) (setPort_setPort ..)

/-- Section 12.2: READ_STATUS's answer byte by byte. -/
theorem statusBody_eq (s : State) (p : Port) : statusBody s p
    = [powerByte s.power, orientationByte s.station.state, driveByte s.drive, faultByte s.drive,
        BitVec.ofNat 8 (occupancy s), ownerByte s.track, trackByte s.track, grantByte s.grant.track,
        if s.clock.valid then 0x01#8 else 0x00#8, BitVec.ofNat 8 (openCount s p),
        BitVec.ofNat 8 (portRecord s p).held.length, modeByte (portRecord s p).mode]
      ++ u16 (portRecord s p).notices.toNat := by
  have power : u8 s.power.code = [powerByte s.power] := by cases s.power <;> rfl
  have orientation : u8 s.station.state.code = [orientationByte s.station.state] := by cases s.station.state <;> rfl
  have drive : u8 s.drive.code = [driveByte s.drive] := by cases s.drive <;> rfl
  have fault : codeOrAbsent (faultCode s.drive) = [faultByte s.drive] := by
    cases s.drive with
    | fault cause => cases cause <;> rfl
    | _ => rfl
  have owner : codeOrAbsent (s.track.map (fun t => portCode t.owner)) = [ownerByte s.track] := by
    cases s.track with
    | none => rfl
    | some t => simp only [Option.map_some, codeOrAbsent, ownerByte]; cases t.owner <;> rfl
  have track : codeOrAbsent (s.track.map (fun t => t.state.code)) = [trackByte s.track] := by
    cases s.track with
    | none => rfl
    | some t => simp only [Option.map_some, codeOrAbsent, trackByte]; cases t.state <;> rfl
  have grant : codeOrAbsent (grantCode s.grant.track) = [grantByte s.grant.track] := by cases s.grant.track <;> rfl
  have mode : u8 (portRecord s p).mode.code = [modeByte (portRecord s p).mode] := by cases (portRecord s p).mode <;> rfl
  simp only [statusBody, power, orientation, drive, fault, owner, track, grant, mode]; rfl

/-- Settles O36: the three readings that change nothing, and READ_STATUS. -/
theorem readingReportsTheState : Obligations.ReadingReportsTheState := by
  refine ⟨fun f s complete room => ⟨fun body => ?_, fun body => ?_, fun length above => ?_, fun n length named => ?_⟩,
    fun f s complete body room => ⟨_, ?_, rfl, statusBody_eq s f.port⟩⟩
  · exact request_immediate_of_mayAsk _ (mayAsk_always complete room (by simp [body])) (by decide)
  · exact request_immediate_of_mayAsk _ (mayAsk_always complete room (by simp [body])) (by decide)
  · refine (request_immediate_of_mayAsk _ (mayAsk_always complete room (by simp [length])) (by decide)).trans ?_
    rw [(roundNoOf_eq_none_iff _).mpr above]; rfl
  · refine (request_immediate_of_mayAsk _ (mayAsk_always complete room (by simp [length])) (by decide)).trans ?_
    rw [(roundNoOf_eq_some_iff _ n).mpr named]; rfl
  · refine (request_immediate_of_mayAsk _ (mayAsk_always complete room (by simp [body])) (by decide)).trans ?_
    exact congrArg _ (readStatus_taken s f)

end Sys2Proof.Machine
end

section
/-! PROOFS. SET_TIME, ALIGN_MINUTE and the requests of the rounds (R168 to R178, R184). -/

namespace Sys2Proof.Machine
open Sys2Proof.Claims

/-! ### The clock -/

/-- R168, R169: the carries out of a minute, on a clock in its ranges. -/
theorem carryMinute_eq {c : Clock} (ok : c.ok = true) :
    carryMinute { c with second := 0, sub := 0 } = minuteAfter c := by
  obtain ⟨-, -, -, -, -, weekday, -⟩ := (clock_ok_iff c).mp ok
  have week : (if c.weekday < 6 then c.weekday + 1 else 0) = (c.weekday + 1) % 7 := by split <;> omega
  have days : monthLength c.year c.month = daysOf c.year c.month := by
    simp only [monthLength, daysOf, Bool.or_eq_true, decide_eq_true_eq, List.mem_cons, List.not_mem_nil,
      or_false, or_assoc]
  unfold carryMinute carryHour carryDay carryMonth carryYear minuteAfter
  simp only [week, days]

theorem alignClock_of_late {c : Clock} (ok : c.ok = true) (late : 30 ≤ c.second) : alignClock c = minuteAfter c := by
  rw [alignClock, if_neg (Nat.not_lt.mpr late), carryMinute_eq ok]

/-- R169: the year falls back in the last minute of year 99 alone. -/
theorem yearWrapped_minuteAfter {c : Clock} (ok : c.ok = true) :
    yearWrapped c (minuteAfter c) = true ↔ LastMinute c := by
  obtain ⟨year, -, monthHigh, -, dayHigh, -, hour, minute, -⟩ := (clock_ok_iff c).mp ok
  have short : ∀ y, daysOf y 12 = 31 := fun _ => rfl
  rw [yearWrapped, decide_eq_true_iff]
  unfold minuteAfter LastMinute
  constructor
  · intro fell
    repeat
      split at fell
      · exact absurd fell (by dsimp only; omega)
    have december : c.month = 12 := by omega
    have : daysOf c.year c.month = 31 := by rw [december, short]
    have : monthLength c.year c.month = 31 := by rw [december]; rfl
    omega
  · rintro ⟨y, m, d, h, mi⟩
    simp [y, m, d, h, mi, short]

theorem setClock_of_kept {s : State} {c : Clock} (h : yearWrapped s.clock c = false) :
    setClock s c = { s with clock := c } := by
  simp [setClock, h]

theorem setClock_of_wrapped {s : State} {c : Clock} (h : yearWrapped s.clock c = true) :
    setClock s c = notifyAll { s with clock := c } .clockUnset := by
  simp [setClock, h]

theorem clock_setClock (s : State) (c : Clock) : (setClock s c).clock = c := by
  unfold setClock; split
  · simp
  · rfl

theorem alignMinute_of_unset {s : State} (f : Frame) (unset : s.clock.valid = false) :
    alignMinute s f = refuse s f .clockUnset := if_neg (by simp [unset])

theorem alignMinute_of_valid {s : State} (f : Frame) (valid : s.clock.valid = true) :
    alignMinute s f = answer (setClock s (alignClock s.clock)) f (clockBody (alignClock s.clock)) := by
  simp [alignMinute, valid, clock_setClock]

/-- Settles O37: the body of SET_TIME is a clock exactly where that clock is in its ranges; the alignment by its
carries. -/
theorem clockIsSetWithoutTick : Obligations.ClockIsSetWithoutTick := by
  refine fun f s => ⟨fun ask => ⟨fun ok => ?_, fun bad => ?_⟩, fun ask => ?_⟩
  · refine (request_immediate_of_mayAsk _ ask (by decide)).trans ?_
    rw [(timeOf_eq_some_iff f.body (clockNamed f)).mpr ⟨ok, rfl⟩]; rfl
  · have none : timeOf f.body = none := by
      refine Option.eq_none_iff_forall_ne_some.mpr fun c named => ?_
      obtain ⟨ok, rfl⟩ := (timeOf_eq_some_iff ..).mp named
      exact absurd (ok.symm.trans bad) (by decide)
    refine (request_immediate_of_mayAsk _ ask (by decide)).trans ?_
    rw [none]; rfl
  · have run : exec (.alignMinute f) s = .next (alignMinute (taken s f) f) :=
      request_immediate_of_mayAsk _ ask (by decide)
    rw [run]
    refine ⟨fun unset => congrArg _ (alignMinute_of_unset f (by exact unset)), fun valid early => ?_,
      fun valid ok late => ⟨fun go => ?_, fun last => ?_⟩⟩
    · have aligned : alignClock (taken s f).clock = { s.clock with second := 0, sub := 0 } := if_pos early
      have kept : yearWrapped (taken s f).clock { s.clock with second := 0, sub := 0 } = false :=
        decide_eq_false (Nat.lt_irrefl _)
      rw [alignMinute_of_valid f (by exact valid), aligned, setClock_of_kept kept]; rfl
    · have aligned : alignClock (taken s f).clock = minuteAfter s.clock := alignClock_of_late ok late
      have kept : yearWrapped (taken s f).clock (minuteAfter s.clock) = false :=
        Bool.eq_false_iff.mpr ((not_congr (yearWrapped_minuteAfter ok)).mpr go)
      rw [alignMinute_of_valid f (by exact valid), aligned, setClock_of_kept kept]; rfl
    · have aligned : alignClock (taken s f).clock = minuteAfter s.clock := alignClock_of_late ok late
      have wrapped : yearWrapped (taken s f).clock (minuteAfter s.clock) = true := (yearWrapped_minuteAfter ok).mpr last
      rw [alignMinute_of_valid f (by exact valid), aligned, setClock_of_wrapped wrapped]; rfl

/-! ### SET_ROUND and ARM_ROUND -/

theorem specified_of_not_running {x : RoundFields} {r : Round} (h : r.state ≠ .running) : specified x r = { r with
    matching := x.matching, reportPort := x.reportPort, level := x.level, range := x.range,
    state := if x.matching = .never then .disarmed else r.state } := by
  have state : (if r.state = .armed && x.matching = .never then .disarmed else r.state)
      = if x.matching = .never then .disarmed else r.state := by
    cases current : r.state with
    | running => exact absurd current h
    | _ => by_cases never : x.matching = .never <;> simp [never]
  rw [specified, state]

theorem outstanding_taken (s : State) (f : Frame) (n : RoundNo) : outstanding (taken s f) n = outstanding s n := rfl

theorem testRound_of_tested {s : State} {n : RoundNo} (h : n ∉ s.untested) : testRound s n = s := by
  unfold testRound
  split
  · rfl
  · exact if_neg (by simpa using h)

/-- Settles O38: the two requests by the round's state, and a round that a boundary no longer concerns. -/
theorem roundsAreSetAndArmed : Obligations.RoundsAreSetAndArmed := by
  refine ⟨fun f s x ask fields => ?_, fun f s n ask named => ?_, fun s n => ⟨?_, fun m other => ?_, fun tested => ?_⟩⟩
  · have run : exec (.setRound f) s = .next (setRound (taken s f) f x) :=
      (request_immediate_of_mayAsk _ ask (by decide)).trans (by rw [fields]; rfl)
    rw [run]
    refine ⟨fun running => congrArg _ (if_pos (by exact running)), fun stands => ?_⟩
    have answered : setRound (taken s f) f x
        = answerRound (putRound (taken s f) x.round (specified x (roundAt s x.round))) f x.round :=
            if_neg (by exact stands)
    rw [answered, specified_of_not_running stands, answerRound, roundAt_putRound_same]; rfl
  · have run : exec (.armRound f) s = .next (armRound (taken s f) f n) :=
      (request_immediate_of_mayAsk _ ask (by decide)).trans (by rw [(roundNoOf_eq_some_iff _ n).mpr named]; rfl)
    have clock : (taken s f).clock = s.clock := rfl
    rw [run]
    refine ⟨fun unset => ?_, fun valid never => ?_, fun valid some => ⟨fun disarmed => ?_, fun stands => ?_,
      fun running stops => ?_⟩⟩ <;> simp only [armRound, clock, roundAt_taken]
    · simp only [unset]; rfl
    · simp only [valid, never]; rfl
    · simp only [valid, some, disarmed, answerRound, arm, roundAt_putRound_same]; rfl
    · rcases stands with armed | ⟨running, goes⟩
      · simp only [valid, some, armed, answerRound]; rfl
      · simp only [valid, some, running, goes, answerRound]; rfl
    · simp only [valid, some, running, stops]; rfl
  · exact fun mem => ((mem_untested_passBoundary s n n).mp mem).2 rfl
  · exact (mem_untested_passBoundary s n m).trans (and_iff_left other)
  · exact congrArg _ (testRound_of_tested tested)

/-! ### DISARM_ROUND -/

theorem removable_eq (n : RoundNo) : removable n = waitingAim n := by
  funext a
  cases state : a.state <;> simp [removable, waitingAim, state]

theorem stopRun_eq (s : State) (n : RoundNo) :
    stopRun s n = freeSlots (putRound s n (stoppedRound s n)) (waitingAim n) := by
  simp only [stopRun, removable_eq]; rfl

theorem roundAt_freeSlots (s : State) (test : Aim → Bool) (m : RoundNo) :
    roundAt (freeSlots s test) m = roundAt s m := by
  obtain ⟨waiting, slots, eq⟩ := freeSlots_writes s test
  rw [eq]; rfl

/-- Settles O39: the three answers, and what a stopped run leaves of the rounds and the slots. -/
theorem disarmStopsTheRun : Obligations.DisarmStopsTheRun := by
  intro f s n ask named
  have run : exec (.disarmRound f) s = .next (disarmRound (taken s f) f n) :=
    (request_immediate_of_mayAsk _ ask (by decide)).trans (by rw [(roundNoOf_eq_some_iff _ n).mpr named]; rfl)
  rw [run]
  refine ⟨fun stands => ?_, fun armed => ?_, fun running goes => ?_⟩
  · rcases stands with disarmed | ⟨running, stops⟩
    · simp only [disarmRound, roundAt_taken, disarmed]; rfl
    · simp only [disarmRound, roundAt_taken, running, stops]; rfl
  · simp only [disarmRound, roundAt_taken, armed]; rfl
  · refine ⟨stopRun (taken s f) n, ?_, ?_, ?_, fun m other => ?_, fun i => ?_⟩
    · simp only [disarmRound, roundAt_taken, running, goes]; rfl
    · obtain ⟨waiting, slots, eq⟩ := freeSlots_writes (putRound (taken s f) n (stoppedRound (taken s f) n))
        (waitingAim n)
      rw [stopRun_eq, eq]; rfl
    · rw [stopRun_eq, roundAt_freeSlots, roundAt_putRound_same]; rfl
    · rw [stopRun_eq, roundAt_freeSlots, roundAt_putRound_other _ _ other, roundAt_taken]
    · have same : slotAt (putRound (taken s f) n (stoppedRound (taken s f) n)) i = slotAt s i := rfl
      rw [stopRun_eq, slotAt_freeSlots, same]
      cases slotAt s i with
      | none => rfl
      | some a => cases waits : waitingAim n a <;> simp [Option.filter, waits]

end Sys2Proof.Machine
end

section
/-! PROOFS. The feeding and the end of a round's run (R180, R182). -/

namespace Sys2Proof.Machine
open Sys2Proof.Claims

/-! ### One more aim in a slot that was free -/

/-- One more element passes a test that differs at one place of a list without repetition. -/
theorem countP_add_one {α : Type} {p q : α → Bool} {i : α} (old : p i = false) (new : q i = true)
    (others : ∀ j, j ≠ i → q j = p j) : ∀ {l : List α}, l.Nodup → i ∈ l → l.countP q = l.countP p + 1
  | j :: l, nodup, mem => by
    obtain ⟨fresh, nodup⟩ := List.nodup_cons.mp nodup
    by_cases here : j = i
    · subst here
      have rest : l.countP q = l.countP p := List.countP_congr fun k hk => by
        rw [others k fun same => fresh (same ▸ hk)]
      simp [old, new, rest]
    · have rest := countP_add_one old new others nodup ((List.mem_cons.mp mem).resolve_left fun same => here same.symm)
      by_cases passes : p j = true <;> simp [others j here, passes, rest]

theorem slotAt_enterQueued (s : State) (i j : SlotNo) (a : Aim) : slotAt (enterQueued s i a) j
    = slotAt (putSlot s i (some { a with state := .queued, sequence := s.sequence })) j := by
  simp [enterQueued, slotAt]

/-- R63: an aim that enters a free slot is one more aim of every kind it is of. -/
theorem countSlots_enterQueued {s : State} {i : SlotNo} (free : slotAt s i = none) {a : Aim} {test : Aim → Bool}
    (passes : test { a with state := .queued, sequence := s.sequence } = true) :
    countSlots (enterQueued s i a) test = countSlots s test + 1 := by
  refine countP_add_one (i := i) (by simp [free]) ?_ (fun j other => ?_) (by decide) (mem_allSlots i)
  · rw [slotAt_enterQueued, slotAt_putSlot_same]; exact passes
  · rw [slotAt_enterQueued, slotAt_putSlot_other _ _ other]

theorem slotFree_of_occupancy {s : State} (h : occupancy s ≤ 12) : SlotFree s := by
  refine Classical.byContradiction fun full => ?_
  have all : ∀ i ∈ allSlots, (slotAt s i).any (fun _ => true) = true := fun i _ => by
    cases held : slotAt s i with
    | none => exact absurd ⟨i, held⟩ full
    | some a => rfl
  have count : occupancy s = allSlots.length := List.countP_eq_length.mpr all
  have : allSlots.length = 16 := rfl
  omega

/-! ### A feeding step -/

theorem mayFeed_iff (s : State) (n : RoundNo) : mayFeed s n = true ↔ (roundAt s n).state = .running
    ∧ (roundAt s n).stopping = false ∧ (roundAt s n).cursor < 128 ∧ outstanding s n < 4 ∧ occupancy s ≤ 12 := by
  simp [mayFeed, and_assoc]

theorem memberAt_iff (s : State) (n : RoundNo) (q : Nat) : memberAt s n q = true ↔ ∃ e, MemberAt s n q e := by
  simp only [memberAt, Option.any_eq_true]; rfl

theorem nextMember_eq_none_iff (s : State) (n : RoundNo) (cursor : Nat) :
    nextMember s n cursor = none ↔ ∀ q e, cursor ≤ q → q < 128 → ¬ MemberAt s n q e := by
  simp only [nextMember, List.find?_eq_none, List.mem_range'_1, memberAt_iff, not_exists]
  exact ⟨fun none q e low high => none q ⟨low, by omega⟩ e, fun none q ⟨low, high⟩ e => none q e low (by omega)⟩

/-- R180: the first member at or after a cursor. -/
theorem nextMember_eq_some {s : State} {n : RoundNo} {cursor q : Nat} {e : Entry} (low : cursor ≤ q) (high : q < 128)
    (member : MemberAt s n q e) (first : ∀ p x, cursor ≤ p → p < q → ¬ MemberAt s n p x) :
    nextMember s n cursor = some q := by
  refine List.find?_range'_eq_some.mpr ⟨(memberAt_iff s n q).mpr ⟨e, member⟩, List.mem_range'_1.mpr ⟨low, by omega⟩, ?_⟩
  intro p hp before
  simpa using (not_congr (memberAt_iff s n p)).mpr fun ⟨x, there⟩ => first p x hp before there

theorem feedStep_of_none {s : State} {n : RoundNo} (h : nextMember s n (roundAt s n).cursor = none) :
    feedStep s n = putRound s n { roundAt s n with cursor := 128 } := by
  simp [feedStep, h]

/-- R69, R180: the aim of a member enters QUEUED in a slot that was free. -/
theorem feedStep_of_some {s : State} {n : RoundNo} {q : Nat} {e : Entry}
    (next : nextMember s n (roundAt s n).cursor = some q)
    (entry : entryAt s q = some e) (free : SlotFree s) : ∃ i, slotAt s i = none ∧ feedStep s n
      = enterQueued (putRound s n { roundAt s n with cursor := q + 1 }) i (roundAim (roundAt s n) n e.id) := by
  obtain ⟨i, found⟩ := Option.isSome_iff_exists.mp ((isSome_freeSlot?_iff s).mpr free)
  refine ⟨i, freeSlot?_eq_some found, ?_⟩
  simp only [feedStep, next, entry]
  exact placeAim_of_free (by exact found) _

theorem nextMember_member {s : State} {n : RoundNo} {cursor q : Nat} (next : nextMember s n cursor = some q) :
    ∃ e, MemberAt s n q e := (memberAt_iff s n q).mp (List.find?_range'_eq_some.mp next).1

/-- R180: a step ends the walk, or it adds an aim of the round. -/
theorem feedStep_progress {s : State} {n : RoundNo} (may : mayFeed s n = true) :
    mayFeed (feedStep s n) n = false ∨ outstanding (feedStep s n) n = outstanding s n + 1 := by
  obtain ⟨-, -, -, -, room⟩ := (mayFeed_iff s n).mp may
  cases next : nextMember s n (roundAt s n).cursor with
  | none =>
    left
    rw [feedStep_of_none next, Bool.eq_false_iff]
    intro more
    obtain ⟨-, -, below, -⟩ := (mayFeed_iff ..).mp more
    rw [roundAt_putRound_same] at below
    exact absurd below (by simp)
  | some q =>
    right
    obtain ⟨e, entry, -⟩ := nextMember_member next
    obtain ⟨i, free, step⟩ := feedStep_of_some next entry (slotFree_of_occupancy room)
    rw [step]
    exact countSlots_enterQueued (s := putRound s n _) free (by simp [roundAim])

/-- R180: while the aims outstanding and the turns left make five, the turns are enough. -/
theorem feedRound_ends {fuel : Nat} {s : State} {n : RoundNo}
    (enough : mayFeed s n = true → 5 ≤ outstanding s n + fuel) :
    ∃ k, k ≤ fuel ∧ FedBy n k s (feedRound fuel s n) ∧ mayFeed (feedRound fuel s n) n = false := by
  induction fuel generalizing s with
  | zero =>
    refine ⟨0, Nat.le_refl 0, by rw [feedRound]; rfl, ?_⟩
    rw [feedRound, Bool.eq_false_iff]
    intro may
    obtain ⟨-, -, -, few, -⟩ := (mayFeed_iff s n).mp may
    have := enough may
    omega
  | succ fuel ih =>
    by_cases may : mayFeed s n = true
    · have step : feedRound (fuel + 1) s n = feedRound fuel (feedStep s n) n := by rw [feedRound, if_pos may]
      obtain ⟨k, bound, fed, spent⟩ := ih (s := feedStep s n) fun again => by
        have := enough may
        rcases feedStep_progress may with spent | added
        · exact absurd again (by simp [spent])
        · omega
      rw [step]
      exact ⟨k + 1, by omega, ⟨may, fed⟩, spent⟩
    · have done : feedRound (fuel + 1) s n = s := by rw [feedRound, if_neg may]
      exact ⟨0, Nat.zero_le _, done.symm ▸ rfl, by rw [done]; simpa using may⟩

/-! ### The end of a run -/

theorem runOver_iff (u : State) (n : RoundNo) : runOver u n = true ↔ RunOver u n := by
  simp [runOver, RunOver, and_assoc]

theorem not_isSummaryOf (n : RoundNo) : (fun h => !isSummaryOf n h) = fun h : Held => match h with
    | .record x _ => !(x.kind = .roundSummary && x.origin = .round n)
    | .aim _ => true := by
  funext h
  cases h <;> rfl

theorem endRun_eq (u : State) (n : RoundNo) : endRun u n = endedRun u n := by
  simp only [endRun, postSummary, not_isSummaryOf]; rfl

theorem serveRound_eq (s : State) (n : RoundNo) : serveRound s n
    = if runOver (feedRound 5 s n) n then endRun (feedRound 5 s n) n else feedRound 5 s n := by
  rw [serveRound]

/-- Settles O40: the feeding conditions, a step, the steps of a round, and the end of its run. -/
theorem roundsAreFedAndEnd : Obligations.RoundsAreFedAndEnd := by
  intro s n
  refine ⟨mayFeed_iff s n, fun q e low high member first free => ?_, fun none => ?_, ?_, by rw [serveRounds]⟩
  · exact feedStep_of_some (nextMember_eq_some low high member first) member.1 free
  · exact feedStep_of_none ((nextMember_eq_none_iff ..).mpr none)
  · obtain ⟨k, bound, fed, spent⟩ := feedRound_ends (fuel := 5) (s := s) (n := n) fun _ => by omega
    refine ⟨k, _, bound, fed, spent, fun ends => ?_, fun goes => ?_⟩
    · rw [serveRound_eq, if_pos ((runOver_iff ..).mpr ends), endRun_eq]
    · rw [serveRound_eq, if_neg ((not_congr (runOver_iff ..)).mpr goes)]

end Sys2Proof.Machine
end

section
/-! PROOFS. CLEAR_FAULT, REST, the attention line and the setup requests (R97, R188 to R190, R203 to R206). -/

namespace Sys2Proof.Machine
open Sys2Proof.Claims

/-! ### CLEAR_FAULT and REST -/

theorem inFault_eq_false {s : State} (h : ∀ cause, s.drive ≠ .fault cause) : inFault s = false :=
  Bool.eq_false_iff.mpr ((not_congr (inFault_iff s)).mpr fun ⟨cause, fault⟩ => h cause fault)

/-- Settles O41: the two requests by the drive's and the power state. -/
theorem clearFaultAndRest : Obligations.ClearFaultAndRest := by
  refine fun f s => ⟨fun denied => ⟨request_immediate_of_denied _ denied (by decide),
    request_immediate_of_denied _ denied (by decide)⟩, fun ask => ?_⟩
  have clear : exec (.clearFault f) s = .next (clearFault (taken s f) f) :=
      request_immediate_of_mayAsk _ ask (by decide)
  have rest : exec (.rest f) s = .next (restRequest (taken s f) f) := request_immediate_of_mayAsk _ ask (by decide)
  have power : (taken s f).power = s.power := rfl
  have idle : isIdle (taken s f) = isIdle s := rfl
  rw [clear, rest]
  refine ⟨fun cause fault => ?_, fun sound => congrArg _ (if_neg (by simpa using inFault_eq_false (by exact sound))),
    fun rests => ?_, fun d causes wakes => ?_, fun d runs busy => ?_, fun d runs free => ?_⟩
  · have faulty : inFault (taken s f) = true := (inFault_iff _).mpr ⟨cause, fault⟩
    have cleared : driveClearFault (taken s f)
        = { taken s f with drive := .holding { h := s.encoder.h, v := s.encoder.v } } := by
      have drive : (taken s f).drive = .fault cause := fault
      simp only [driveClearFault, drive]; rfl
    rw [clearFault, if_pos faulty, cleared]; rfl
  · simp only [restRequest, power, rests]; rfl
  · simp only [restRequest, power, wakes]; rfl
  · simp only [restRequest, power, runs, idle, busy]; rfl
  · simp only [restRequest, power, runs, idle, free, if_true]; rfl

/-! ### The attention line -/

theorem attentionCondition_iff (q : PortRecord) :
    attentionCondition q = true ↔ q.replies ≠ [] ∨ q.notices ≠ 0#10 ∨ q.fix ≠ none := by
  simp [attentionCondition, Option.isSome_iff_ne_none, or_assoc]

/-- Settles O42: the mode, then the record; the pulse's end; the line by the mode. -/
theorem attentionFollowsTheMode : Obligations.AttentionFollowsTheMode := by
  refine ⟨fun f s m ask code => ?_, fun p d s pulse due => ?_, fun q => ⟨fun level => ?_, fun pulse => ?_⟩⟩
  · have set : modPort (taken s f) f.port (fun q => { q with mode := m, pulse := none })
        = setPort s f.port { portRecord s f.port with mode := m, pulse := none, out := bytesOut f 0x5A#8 } := by
      rw [modPort_eq_setPort, portRecord_taken_same]; exact setPort_setPort ..
    refine (request_immediate_of_mayAsk _ ask (by decide)).trans ?_
    rw [code, withFields, setAttentionMode, set]; rfl
  · have arrived : arrives s d = true := (arrives_iff s d).mpr due
    simp only [exec, execAttentionPulseEnd, endPulse, pulse, arrived, if_true]; rfl
  · rw [attentionAsserted, level]; exact attentionCondition_iff q
  · rw [attentionAsserted, pulse]; exact Option.isSome_iff_ne_none

/-! ### The settings -/

theorem settingOf_eq (b : List Byte) (k : Nat) {low high : Nat} (order : low ≤ high) (held : Nat) :
    settingOf b k low high held = clampTo low high held (word16At b k) := by
  unfold settingOf clampTo; (repeat' split) <;> omega

theorem settingsOf_eq (b : List Byte) (c : Settings) : settingsOf b c = configured b c := by
  simp only [settingsOf, idleRestOf, configured]
  rw [settingOf_eq _ _ (by decide), settingOf_eq _ _ (by decide), settingOf_eq _ _ (by decide),
      settingOf_eq _ _ (by decide),
    settingOf_eq _ _ (by decide), settingOf_eq _ _ (by decide), settingOf_eq _ _ (by decide),
        settingOf_eq _ _ (by decide),
    settingOf_eq _ _ (by decide), settingOf_eq _ _ (by decide)]

theorem settings_replaceIdleDeadline (s : State) (before : Nat) :
    (replaceIdleDeadline s before).settings = s.settings := by
  unfold replaceIdleDeadline
  split
  · split <;> rfl
  · rfl

theorem replaceIdleDeadline_of_not_run {s : State} (before : Nat) (h : ∀ d, s.power ≠ .run d) :
    replaceIdleDeadline s before = s := by
  cases power : s.power with
  | run d => exact absurd power (h d)
  | _ => simp [replaceIdleDeadline, power]

theorem replaceIdleDeadline_of_run {s : State} {d : Option Nat} (before : Nat) (power : s.power = .run d) :
    replaceIdleDeadline s before = if s.settings.idleRest ≠ before ∧ (d ≠ none ∨ isIdle s = true)
      then { s with power := .run (if s.settings.idleRest = 0 then none
        else some (s.elapsed + 640000 * s.settings.idleRest)) } else s := by
  simp only [replaceIdleDeadline, power]
  exact ite_congr (by simp [Option.isSome_iff_ne_none]) (fun _ => rfl) fun _ => rfl

/-! ### The setup requests -/

theorem guestOf_of_port {n : Nat} {p : Port} (named : portOf n = some p) (guest : p ≠ .a) : guestOf n = some p := by
  cases p with
  | a => exact absurd rfl guest
  | b => simp [guestOf, named]
  | c => simp [guestOf, named]

theorem levelFieldsOf_eq {b : List Byte} {p : Port} {d c : Level} (port : portOf (byteAt b 0) = some p)
    (level : levelOf (byteAt b 1) = some d) (ceiling : levelOf (byteAt b 2) = some c) :
    levelFieldsOf b = some { port := p, default := lowerTo c d, ceiling := c } := by
  simp [levelFieldsOf, port, level, ceiling]

/-- Settles O44: the three setup requests, the ranges, and the idle deadline. -/
theorem setupRequestsApply : Obligations.SetupRequestsApply := by
  refine fun f s => ⟨fun p ask guest named => ?_, fun p d c ask port level ceiling => ?_, fun ask => ?_,
    fun b c ok => settingsOf_eq b c ▸ settingsOf_ok b ok, fun before => ⟨replaceIdleDeadline_of_not_run before,
      fun same => ?_, fun absent busy => ?_, fun d power changed present => ?_⟩⟩
  · refine (request_immediate_of_mayAsk _ ask (by decide)).trans ?_
    rw [guestOf_of_port named guest, withFields, setPermissions]
    simp only [u8, BitVec.ofNat_toNat, BitVec.setWidth_eq]; rfl
  · refine (request_immediate_of_mayAsk _ ask (by decide)).trans ?_
    rw [levelFieldsOf_eq port level ceiling]; rfl
  · refine (request_immediate_of_mayAsk _ ask (by decide)).trans (congrArg _ ?_)
    have configured : settingsOf f.body (taken s f).settings = Claims.configured f.body s.settings := settingsOf_eq ..
    simp only [setConfig, configured, settings_replaceIdleDeadline]; rfl
  · cases power : s.power with
    | run d => rw [replaceIdleDeadline_of_run before power, if_neg (by simp [same])]
    | _ => exact replaceIdleDeadline_of_not_run before (by simp [power])
  · rw [replaceIdleDeadline_of_run before absent, if_neg (by simp [busy])]
  · rw [replaceIdleDeadline_of_run before power, if_pos ⟨changed, present⟩]

end Sys2Proof.Machine
end

section
/-! PROOFS. PORT_RESET (R86, R151, R165, R207). -/

namespace Sys2Proof.Machine
open Sys2Proof.Claims

/-! ### The steps of a port's reset -/

/-- R86: from `s` to `u` the aims of a port's reset are gone, and an ACTIVE one of its own is aborted. -/
structure AimsReset (s u : State) (p : Port) : Prop where
  writes : u = { s with drive := u.drive, distance := u.distance, grant := u.grant, attempt := u.attempt,
                        slots := u.slots, track := u.track }
  track : ∃ waiting : Track → Bool, u.track = s.track.map (fun k => { k with aimsWaiting := waiting k })
  grantTrack : u.grant.track = s.grant.track
  slots : ∀ i, slotAt u i = if (slotAt s i).any (resetRemoves p) then none else slotAt s i
  active : activeOwn s p = true → u.attempt = none ∧ u.grant.active = none ∧ u.drive = stoppedDrive s
    ∧ u.distance = abandonedBy .acquisition s.distance
  idle : activeOwn s p = false → u.attempt = s.attempt ∧ u.grant.active = s.grant.active ∧ u.drive = s.drive
    ∧ u.distance = s.distance

theorem aimsReset_resetAims (s : State) (p : Port) : AimsReset s (resetAims s p) p := by
  cases own : activeOwn s p with
  | true =>
    have reset : resetAims s p = freeSlots (abandonAttempt s) (resetRemoves p) := by simp only [resetAims, own, if_true]
    have slots (i : SlotNo) := slotAt_freeSlots (abandonAttempt s) (resetRemoves p) i
    obtain ⟨waiting, left, eq⟩ := freeSlots_writes (abandonAttempt s) (resetRemoves p)
    rw [eq, abandonAttempt_eq] at slots
    rw [reset, eq, abandonAttempt_eq]
    exact ⟨rfl, ⟨waiting, rfl⟩, rfl, slots, fun _ => ⟨rfl, rfl, rfl, rfl⟩,
        fun idle => absurd (own.symm.trans idle) (by decide)⟩
  | false =>
    have reset : resetAims s p = freeSlots s (resetRemoves p) := by simp only [resetAims, own]; rfl
    have slots (i : SlotNo) := slotAt_freeSlots s (resetRemoves p) i
    obtain ⟨waiting, left, eq⟩ := freeSlots_writes s (resetRemoves p)
    rw [eq] at slots
    rw [reset, eq]
    exact ⟨rfl, ⟨waiting, rfl⟩, rfl, slots, fun on => absurd (own.symm.trans on) (by decide),
        fun _ => ⟨rfl, rfl, rfl, rfl⟩⟩

/-- R151: a track of the port runs. -/
def Tracks (s : State) (p : Port) : Prop := ∃ k, s.track = some k ∧ k.owner = p

theorem resetTrack_of_tracks {s : State} {p : Port} (h : Tracks s p) : resetTrack s p = { s with
    drive := trackStopped s, distance := abandonedBy .track s.distance, grant := { s.grant with track := .absent },
    track := none } := by
  obtain ⟨k, track, owner⟩ := h
  rw [resetTrack, if_pos (by simp [track, owner]), endTrack_silent track, releaseTrack_eq]

theorem resetTrack_of_none {s : State} {p : Port} (h : ¬ Tracks s p) : resetTrack s p = s :=
  if_neg fun any => by
    obtain ⟨k, track, owner⟩ := (Option.any_eq_true _ _).mp any
    exact h ⟨k, track, by simpa using owner⟩

theorem AimsReset.tracks_iff {s u : State} {p : Port} (h : AimsReset s u p) : Tracks u p ↔ Tracks s p := by
  obtain ⟨waiting, track⟩ := h.track
  rw [Tracks, Tracks, track]
  cases s.track <;> simp

/-- R93: a stop leaves no move of the track to be stopped. -/
theorem trackStopped_of_stopped {s u : State} (h : u.drive = stoppedDrive s) : trackStopped u = u.drive := by
  cases drive : s.drive with
  | moving m =>
    by_cases stops : m.stopping = true
    · simp [trackStopped, stoppedDrive, h, drive, stops]
    · simp [trackStopped, stoppedDrive, h, drive, stops, stoppedMove]
  | _ => simp [trackStopped, stoppedDrive, h, drive]

/-! ### What the reset leaves -/

/-- R207: the port's record and claims cleared, before its aims. -/
def cleared (s : State) (p : Port) : State := putClaim (modPort s p clearPort) p { reservation := none, wait := none }

/-- R207: the steps of the reset: the record and the claims, the aims, the track, the check. -/
theorem resetPort_steps (s : State) (p : Port) : ∃ u, AimsReset (cleared s p) u p ∧ (Tracks u p ↔ Tracks s p)
    ∧ resetPort s p = uncountCheck (resetTrack u p) p :=
  ⟨_, aimsReset_resetAims .., (aimsReset_resetAims (cleared s p) p).tracks_iff, rfl⟩

/-- The last two steps of the reset write the axes, the distance request, the track and the check. -/
theorem uncountCheck_resetTrack_keeps (u : State) (p : Port) : (uncountCheck (resetTrack u p) p).ports = u.ports
    ∧ (uncountCheck (resetTrack u p) p).claims = u.claims ∧ (uncountCheck (resetTrack u p) p).sets = u.sets
    ∧ (uncountCheck (resetTrack u p) p).clock = u.clock ∧ (uncountCheck (resetTrack u p) p).rounds = u.rounds
    ∧ (uncountCheck (resetTrack u p) p).power = u.power ∧ (uncountCheck (resetTrack u p) p).sequence = u.sequence
    ∧ (uncountCheck (resetTrack u p) p).station.omega = u.station.omega
    ∧ (uncountCheck (resetTrack u p) p).station.state = u.station.state
    ∧ (uncountCheck (resetTrack u p) p).settings = u.settings := by
  by_cases tracks : Tracks u p
  · rw [resetTrack_of_tracks tracks]; exact ⟨rfl, rfl, rfl, rfl, rfl, rfl, rfl, rfl, rfl, rfl⟩
  · rw [resetTrack_of_none tracks]; exact ⟨rfl, rfl, rfl, rfl, rfl, rfl, rfl, rfl, rfl, rfl⟩

/-- What the reset leaves as it stands once the port's record and claims are cleared. -/
theorem resetPort_keeps (s : State) (p : Port) : (resetPort s p).ports = (cleared s p).ports
    ∧ (resetPort s p).claims = (cleared s p).claims ∧ (resetPort s p).sets = s.sets ∧ (resetPort s p).clock = s.clock
    ∧ (resetPort s p).rounds = s.rounds ∧ (resetPort s p).power = s.power ∧ (resetPort s p).sequence = s.sequence
    ∧ (resetPort s p).station.omega = s.station.omega ∧ (resetPort s p).station.state = s.station.state
    ∧ (resetPort s p).settings = s.settings := by
  obtain ⟨u, reset, -, eq⟩ := resetPort_steps s p
  rw [eq]
  rw [reset.writes]
  exact uncountCheck_resetTrack_keeps _ p

theorem slotAt_resetPort (s : State) (p : Port) (i : SlotNo) :
    slotAt (resetPort s p) i = if (slotAt s i).any (resetRemoves p) then none else slotAt s i := by
  obtain ⟨u, reset, -, eq⟩ := resetPort_steps s p
  rw [eq]
  rw [show slotAt s i = slotAt (cleared s p) i from rfl, ← reset.slots i]
  by_cases tracks : Tracks u p
  · rw [resetTrack_of_tracks tracks]; rfl
  · rw [resetTrack_of_none tracks]; rfl

theorem portRecord_resetPort_same (s : State) (p : Port) :
    portRecord (resetPort s p) p = clearPort (portRecord s p) := by
  rw [portRecord, (resetPort_keeps s p).1]; exact portRecord_modPort_same ..

theorem portRecord_resetPort_other (s : State) {p q : Port} (h : q ≠ p) :
    portRecord (resetPort s p) q = portRecord s q := by
  rw [portRecord, (resetPort_keeps s p).1]; exact portRecord_modPort_other _ _ h

theorem claim_resetPort_same (s : State) (p : Port) :
    claim (resetPort s p) p = { reservation := none, wait := none } := by
  rw [claim, (resetPort_keeps s p).2.1]; exact claim_putClaim_same ..

theorem claim_resetPort_other (s : State) {p q : Port} (h : q ≠ p) : claim (resetPort s p) q = claim s q := by
  rw [claim, (resetPort_keeps s p).2.1]; exact claim_putClaim_other _ _ h

theorem resetRemoves_iff (p : Port) (a : Aim) : resetRemoves p a = true
    ↔ a.port = p ∧ (a.origin = .port ∨ ((∃ n, a.origin = .round n) ∧ ∃ r, a.state = .doneHeld r)) := by
  cases origin : a.origin <;> cases state : a.state <;> simp [resetRemoves, origin, state]

/-- R86: the aim of a slot after the reset is one that the reset does not remove. -/
theorem slotAt_resetPort_eq_some {s : State} {p : Port} {i : SlotNo} {a : Aim} :
    slotAt (resetPort s p) i = some a ↔ slotAt s i = some a ∧ resetRemoves p a = false := by
  rw [slotAt_resetPort]
  cases slotAt s i with
  | none => simp
  | some b => cases removes : resetRemoves p b <;> simp [removes] <;> rintro rfl <;> exact removes

/-! ### The axes, the track and the count of open requests -/

theorem resetPort_of_tracks {s : State} {p : Port} (h : Tracks s p) :
    (resetPort s p).track = none ∧ (resetPort s p).grant.track = .absent := by
  obtain ⟨u, reset, tracks_iff, eq⟩ := resetPort_steps s p
  rw [eq, resetTrack_of_tracks (tracks_iff.mpr h)]
  exact ⟨rfl, rfl⟩

theorem resetPort_of_no_track {s : State} {p : Port} (h : ¬ Tracks s p) :
    (resetPort s p).grant.track = s.grant.track
    ∧ ∃ waiting : Track → Bool, (resetPort s p).track = s.track.map (fun k => { k with aimsWaiting := waiting k }) := by
  obtain ⟨u, reset, tracks_iff, eq⟩ := resetPort_steps s p
  rw [eq, resetTrack_of_none ((not_congr tracks_iff).mpr h)]
  exact ⟨reset.grantTrack, reset.track⟩

/-- R86, R151: the axes where an ACTIVE aim of the port is aborted. -/
theorem resetPort_of_active {s : State} {p : Port} (own : activeOwn s p = true) :
    (resetPort s p).attempt = none ∧ (resetPort s p).grant.active = none ∧ (resetPort s p).drive = stoppedDrive s
    ∧ (Tracks s p → (resetPort s p).distance = abandonedBy .track (abandonedBy .acquisition s.distance))
    ∧ (¬ Tracks s p → (resetPort s p).distance = abandonedBy .acquisition s.distance) := by
  obtain ⟨u, reset, tracks_iff, eq⟩ := resetPort_steps s p
  obtain ⟨attempt, active, drive, distance⟩ := reset.active own
  rw [eq]
  by_cases tracks : Tracks s p
  · rw [resetTrack_of_tracks (tracks_iff.mpr tracks)]
    refine ⟨attempt, active, (trackStopped_of_stopped drive).trans drive, fun _ => ?_, absurd tracks⟩
    exact congrArg (abandonedBy .track) distance
  · rw [resetTrack_of_none ((not_congr tracks_iff).mpr tracks)]
    exact ⟨attempt, active, drive, fun yes => absurd yes tracks, fun _ => distance⟩

theorem trackStopped_congr {s u : State} (drive : u.drive = s.drive) (time : u.elapsed = s.elapsed) :
    trackStopped u = trackStopped s := by
  simp only [trackStopped, stoppedDrive, stoppedMove, drive, time]

/-- R151: the axes where no ACTIVE aim of the port is aborted. -/
theorem resetPort_of_idle {s : State} {p : Port} (idle : activeOwn s p = false) :
    (resetPort s p).attempt = s.attempt ∧ (resetPort s p).grant.active = s.grant.active
    ∧ (Tracks s p → (resetPort s p).drive = trackStopped s ∧ (resetPort s p).distance = abandonedBy .track s.distance)
    ∧ (¬ Tracks s p → (resetPort s p).drive = s.drive ∧ (resetPort s p).distance = s.distance) := by
  obtain ⟨u, reset, tracks_iff, eq⟩ := resetPort_steps s p
  obtain ⟨attempt, active, drive, distance⟩ := reset.idle idle
  have time : u.elapsed = s.elapsed := (congrArg State.elapsed reset.writes :)
  rw [eq]
  by_cases tracks : Tracks s p
  · rw [resetTrack_of_tracks (tracks_iff.mpr tracks)]
    refine ⟨attempt, active, fun _ => ⟨trackStopped_congr drive time, ?_⟩, absurd tracks⟩
    exact congrArg (abandonedBy .track) distance
  · rw [resetTrack_of_none ((not_congr tracks_iff).mpr tracks)]
    exact ⟨attempt, active, fun yes => absurd yes tracks, fun _ => ⟨drive, distance⟩⟩

theorem owner_of_resetPort {s : State} {p : Port} {k : Track} (h : (resetPort s p).track = some k) : k.owner ≠ p := by
  by_cases tracks : Tracks s p
  · rw [(resetPort_of_tracks tracks).1] at h; cases h
  · obtain ⟨-, waiting, track⟩ := resetPort_of_no_track tracks
    obtain ⟨l, runs, rfl⟩ := Option.map_eq_some_iff.mp (track.symm.trans h)
    exact fun owner => tracks ⟨l, runs, owner⟩

/-- R165: a check of the port counts no more. -/
theorem check_resetPort (s : State) (p : Port) :
    (resetPort s p).station.check.any (fun c => c.counted && c.port = p) = false := by
  obtain ⟨u, -, -, eq⟩ := resetPort_steps s p
  rw [eq, uncountCheck]
  cases (resetTrack u p).station.check with
  | none => rfl
  | some c => by_cases own : c.port = p <;> simp [own]

/-- R207: nothing of the port is open. -/
theorem openCount_resetPort (s : State) (p : Port) : openCount (resetPort s p) p = 0 := by
  have aims : countSlots (resetPort s p) (fun a => a.origin = .port && a.port = p) = 0 := by
    refine Nat.eq_zero_of_not_pos fun some => ?_
    obtain ⟨i, a, held, own⟩ := (countSlots_pos_iff _ _).mp some
    obtain ⟨origin, port⟩ : a.origin = .port ∧ a.port = p := by simpa using own
    have stays := (slotAt_resetPort_eq_some.mp held).2
    exact absurd ((resetRemoves_iff p a).mpr ⟨port, .inl origin⟩) (by simp [stays])
  have waits : (atPort (resetPort s p).claims p).wait = none := congrArg Claim.wait (claim_resetPort_same s p)
  have held : (portRecord (resetPort s p) p).held = [] := by rw [portRecord_resetPort_same]; rfl
  have track : (resetPort s p).track.any (fun t => t.owner = p) = false := by
    refine Bool.eq_false_iff.mpr fun any => ?_
    obtain ⟨k, runs, owner⟩ := (Option.any_eq_true _ _).mp any
    exact owner_of_resetPort runs (by simpa using owner)
  simp [openCount, aims, waits, held, track, check_resetPort]

/-- Settles O43, from what the reset of a port leaves in each of its records. -/
theorem portResetClearsThePort : Obligations.PortResetClearsThePort := by
  intro f s complete body
  have record : portRecord (resetPort (taken s f) f.port) f.port
      = clearPort { portRecord s f.port with out := bytesOut f 0x5A#8 } := by
    rw [portRecord_resetPort_same, portRecord_taken_same]
  have active_iff := activeOwn_iff (taken s f) f.port
  obtain ⟨-, -, sets, clock, rounds, power, sequence, omega, state, settings⟩ := resetPort_keeps (taken s f) f.port
  refine ⟨resetPort (taken s f) f.port, ?_, ?_, ?_, ?_, ?_, ?_, ?_, ?_, ?_, ?_, ?_, claim_resetPort_same ..,
    openCount_resetPort .., fun i a held => ?_,
        fun i a held => ⟨fun kept => ?_, fun port origin => ?_, fun n port origin =>
      ⟨fun r done => ?_, fun waits => ?_⟩⟩, ⟨fun own => ?_, fun idle => ?_, fun tracks => ?_, fun none => ?_⟩,
    fun k => owner_of_resetPort, fun p other => ⟨?_, ?_⟩, sets, clock, rounds, power, sequence, omega, state,
    settings⟩
  · simp [exec, execPortReset, complete, body]; rfl
  iterate 10 (rw [record]; rfl)
  · obtain ⟨before, stays⟩ := slotAt_resetPort_eq_some.mp held
    refine ⟨before, fun ⟨origin, port⟩ => ?_⟩
    exact absurd ((resetRemoves_iff ..).mpr ⟨port, .inl origin⟩) (by simp [stays])
  · refine slotAt_resetPort_eq_some.mpr ⟨held, Bool.eq_false_iff.mpr fun gone => ?_⟩
    obtain ⟨port, origin | ⟨⟨n, origin⟩, -⟩⟩ := (resetRemoves_iff ..).mp gone
    · exact kept.elim (absurd port) fun check => by simp [check] at origin
    · exact kept.elim (absurd port) fun check => by simp [check] at origin
  · have gone : resetRemoves f.port a = true := (resetRemoves_iff ..).mpr ⟨port, .inl origin⟩
    rw [slotAt_resetPort, slotAt_taken, held]; simp [gone]
  · have gone : resetRemoves f.port a = true := (resetRemoves_iff ..).mpr ⟨port, .inr ⟨⟨n, origin⟩, r, done⟩⟩
    rw [slotAt_resetPort, slotAt_taken, held]; simp [gone]
  · refine slotAt_resetPort_eq_some.mpr ⟨held, Bool.eq_false_iff.mpr fun gone => ?_⟩
    obtain ⟨-, own | ⟨-, r, done⟩⟩ := (resetRemoves_iff ..).mp gone
    · simp [origin] at own
    · exact waits r done
  · exact resetPort_of_active (s := taken s f) (active_iff.mpr own)
  · exact resetPort_of_idle (s := taken s f) (Bool.eq_false_iff.mpr ((not_congr active_iff).mpr idle))
  · exact resetPort_of_tracks (s := taken s f) tracks
  · exact resetPort_of_no_track (s := taken s f) none
  · exact (portRecord_resetPort_other _ other).trans (portRecord_clockOut_other s _ other)
  · exact claim_resetPort_other _ other

end Sys2Proof.Machine
end

section
/-! PROOFS. The drive's readings and faults, and the frames that are judged (R88 to R96, R104 to R107, R128, R132). -/

namespace Sys2Proof.Machine
open Sys2Proof.Claims

/-! ### Arrivals -/

theorem exec_encoderReadings {e : Encoder} (s : State) (wf : e.wf = true) :
    exec (.encoderReadings e) s = .next (takeReadings s e) := if_pos wf

theorem arrived_iff (e : Encoder) (target : Pointing) : arrived e target = true ↔ InPlace e target := by
  simp [arrived, atRest, InPlace, and_assoc]

theorem displaced_iff (e : Encoder) (held : Pointing) :
    displaced e held = true ↔ 2000 < (dev e.h held.h).natAbs ∨ 2000 < (dev e.v held.v).natAbs := by
  simp [displaced]

theorem takeReadings_moving {s : State} {m : Move} (e : Encoder) (moving : s.drive = .moving m) :
    takeReadings s e = readingsInMove { s with encoder := e } m := by
  simp only [takeReadings, moving]

theorem takeReadings_holding {s : State} {held : Pointing} (e : Encoder) (holding : s.drive = .holding held) :
    takeReadings s e
      = if displaced e held then enterFault { s with encoder := e } .displaced else { s with encoder := e } := by
  simp only [takeReadings, holding]

/-- R92: a move that arrives holds its targets and tells its commander. -/
theorem readingsInMove_of_arrival {s : State} {m : Move} (going : m.stopping = false)
    (there : InPlace s.encoder m.target) :
    readingsInMove s m = tellArrival { s with drive := .holding m.target } m.commander := by
  simp [readingsInMove, going, (arrived_iff ..).mpr there]

theorem attemptArrival_of_turning {s : State} {t : Attempt} (attempt : s.attempt = some t)
    (turning : t.phase = .turning) :
    attemptArrival s = { s with attempt := some { t with phase := .sensing, reachedSensing := true } } := by
  simp [attemptArrival, attempt, turning]

theorem attemptArrival_of_other {s : State} {t : Attempt} (attempt : s.attempt = some t) (other : t.phase ≠ .turning) :
    attemptArrival s = s := by
  simp only [attemptArrival, attempt, Option.map_some, if_neg other]; rw [← attempt]

theorem trackArrival_of_turning {s : State} {t : Track} (track : s.track = some t) (state : t.state = .acquiring)
    (phase : t.acquirePhase = some .turning) :
    trackArrival s = { s with track := some { t with acquirePhase := some .sensing } } := by
  simp [trackArrival, track, state, phase]

theorem trackArrival_of_other {s : State} {t : Track} (track : s.track = some t)
    (other : t.state ≠ .acquiring ∨ t.acquirePhase ≠ some .turning) : trackArrival s = s := by
  have no : ¬ (t.state = .acquiring && t.acquirePhase = some .turning) = true := by
    rcases other with other | other <;> simp [other]
  simp only [trackArrival, track, Option.map_some, if_neg no]; rw [← track]

/-! ### Faults -/

theorem decideCourse_grantTrack (s : State) (i : SlotNo) (a : Aim) (st : Status) :
    (decideCourse s i a st).grant.track = s.grant.track := by
  simp only [decideCourse]
  split
  · split <;> simp [releaseAim]
  · simp [releaseAim]

theorem endAttempt_grantTrack (s : State) (st : Status) (d : Option Nat) :
    (endAttempt s st d).grant.track = s.grant.track := by
  unfold endAttempt
  split
  · rfl
  · split
    · rfl
    · split
      · rw [decideCourse_grantTrack]; simp
      · rw [decideCourse_grantTrack]

theorem endAttempt_of_none {s : State} (none : s.attempt = none) (st : Status) (d : Option Nat) :
    endAttempt s st d = s := by
  simp [endAttempt, none]

/-- R78: an ending that is not retryable is final for the aim. -/
theorem completes_endAttempt {s : State} {t : Attempt} {a : Aim} {st : Status} (attempt : s.attempt = some t)
    (slot : slotAt s t.slot = some a) (final : isRetryable st = false) (d : Option Nat) :
    Completes { (handedOver s t a st d).1 with attempt := none, grant := { s.grant with active := none } } t.slot
      (handedOver s t a st d).2 st (endAttempt s st d) := by
  have grant : (handedOver s t a st d).1.grant = s.grant := by
    unfold handedOver; split
    · simp
    · rfl
  have released : releaseAim { (handedOver s t a st d).1 with attempt := none }
      = { (handedOver s t a st d).1 with attempt := none, grant := { s.grant with active := none } } := by
    simp only [releaseAim, grant]
  rw [endAttempt_eq attempt slot, ← released, decideCourse, final]
  exact completes_complete ..

theorem endHoldingTrack_of_holding {s : State} {b : Bool} (cause : Status) (holds : s.grant.track = .holding b) :
    endHoldingTrack s cause = endTrack s (some cause) := if_pos ((trackHolds_iff s).mpr ⟨b, holds⟩)

theorem endHoldingTrack_of_other {s : State} (cause : Status) (lets : ∀ b, s.grant.track ≠ .holding b) :
    endHoldingTrack s cause = s := if_neg ((not_congr (trackHolds_iff s)).mpr fun ⟨b, holds⟩ => lets b holds)

/-- R96, R128: a fault ends the attempt, then a track that holds the axes. -/
theorem enterFault_eq (s : State) (cause : FaultCause) : enterFault s cause
    = afterEvent (endHoldingTrack (endAttempt (faulted s cause) .driveFault none) .driveFault) := rfl

theorem grantTrack_fault (s : State) (cause : FaultCause) :
    (endAttempt (faulted s cause) .driveFault none).grant.track = s.grant.track := endAttempt_grantTrack ..

/-- Settles O45: the readings by the drive's state, and what a fault ends. -/
theorem driveTakesReadings : Obligations.DriveTakesReadings := by
  intro e s wf
  rw [exec_encoderReadings s wf]
  refine ⟨fun m moving going there => ?_, fun m moving going away => ?_, fun m moving stops restH restV => ?_,
    fun held holding nearH nearV => ?_, fun held holding pushed => ?_, fun m moving due => ?_, fun cause => ?_⟩
  · rw [takeReadings_moving e moving, readingsInMove_of_arrival going there]
    refine ⟨fun none => by rw [none]; rfl, fun t own attempt => ?_, fun t own track => ?_⟩
    · rw [own]
      exact ⟨fun turning => congrArg _ (attemptArrival_of_turning (by exact attempt) turning),
        fun other => congrArg _ (attemptArrival_of_other (by exact attempt) other)⟩
    · rw [own]
      exact ⟨fun state phase => congrArg _ (trackArrival_of_turning (by exact track) state phase),
        fun other => congrArg _ (trackArrival_of_other (by exact track) other)⟩
  · have far : ¬ arrived e m.target = true := (not_congr (arrived_iff ..)).mpr fun ⟨h, v, restH, restV⟩ => by
      rcases away with away | away | away | away
      · omega
      · omega
      · simp [restH] at away
      · simp [restV] at away
    rw [takeReadings_moving e moving]
    simp [readingsInMove, going, far]
  · rw [takeReadings_moving e moving]
    simp only [readingsInMove, stops, atRest, restH, restV]; rfl
  · rw [takeReadings_holding e holding, if_neg ((not_congr (displaced_iff ..)).mpr (by omega))]
  · rw [takeReadings_holding e holding, if_pos ((displaced_iff ..).mpr pushed)]
  · simp only [exec, execStallDeadline, stallMove, moving, (arrives_iff s _).mpr due, if_true]; rfl
  · refine ⟨fun lets => ?_, fun b holds => ?_, fun none => ?_, fun t a attempt slot => ?_⟩
    · rw [enterFault_eq, endHoldingTrack_of_other _ (by simpa only [grantTrack_fault] using lets)]
    · rw [enterFault_eq, endHoldingTrack_of_holding _ ((grantTrack_fault s cause).trans holds)]
    · exact endAttempt_of_none (by simpa [faulted] using none) _ _
    · have completes := completes_endAttempt (s := faulted s cause) (t := t) (a := a) (st := .driveFault)
        (by simpa [faulted] using attempt) (by simpa [faulted, slotAt] using slot) rfl none
      have grant : (faulted s cause).grant = s.grant := by simp [faulted]
      unfold handedOver at completes
      cases sensing : t.reachedSensing with
      | true => simpa only [sensing, if_true, grant] using completes
      | false => simpa only [sensing, Bool.false_eq_true, if_false, grant] using completes

/-! ### The selection over a frame (R106) -/

theorem nearerThan_iff (g best : Sighting) : nearerThan g best = true ↔ Nearer g best := by
  simp [nearerThan, Nearer]

theorem withinGuard_iff (guard : Nat) (g k : Sighting) : withinGuard guard g k = true ↔ Close guard g k :=
  decide_eq_true_iff

/-- R106: `x` stands in a list, nearer than all before it, with none after it nearer. -/
def NearestIn (seen before : List Sighting) (x : Sighting) (after : List Sighting) : Prop :=
  seen = before ++ x :: after ∧ (∀ y ∈ before, Nearer x y) ∧ ∀ y ∈ after, ¬ Nearer y x

/-- R106: a nearer sighting at the end of a list is the nearest of it. -/
theorem NearestIn.append_nearer {seen before after : List Sighting} {x g : Sighting} (h : NearestIn seen before x after)
    (nearer : Nearer g x) : NearestIn (seen ++ [g]) seen g [] := by
  obtain ⟨rfl, ahead, behind⟩ := h
  refine ⟨rfl, fun y hy => ?_, by simp⟩
  rcases List.mem_append.mp hy with hy | hy
  · have := ahead y hy
    unfold Nearer at *; omega
  · rcases List.mem_cons.mp hy with rfl | hy
    · exact nearer
    · have := behind y hy
      unfold Nearer at *; omega

theorem NearestIn.append_other {seen before after : List Sighting} {x g : Sighting} (h : NearestIn seen before x after)
    (other : ¬ Nearer g x) : NearestIn (seen ++ [g]) before x (after ++ [g]) := by
  obtain ⟨rfl, ahead, behind⟩ := h
  refine ⟨by simp, ahead, fun y hy => ?_⟩
  rcases List.mem_append.mp hy with hy | hy
  · exact behind y hy
  · obtain rfl := List.mem_singleton.mp hy
    exact other

/-- R106: the walk over the rest of a frame. -/
theorem nearestIn_nearestFrom (rest : List Sighting) {seen before after : List Sighting} {x : Sighting}
    (h : NearestIn seen before x after) : ∃ before' x' after',
      nearestFrom (before.length, x) seen.length rest = (before'.length, x')
          ∧ NearestIn (seen ++ rest) before' x' after' := by
  induction rest generalizing seen before x after with
  | nil => exact ⟨before, x, after, rfl, by simpa using h⟩
  | cons g rest ih =>
    have length : seen.length + 1 = (seen ++ [g]).length := by simp
    have whole : seen ++ g :: rest = (seen ++ [g]) ++ rest := by simp
    rw [nearestFrom, length, whole]
    by_cases nearer : Nearer g x
    · rw [if_pos ((nearerThan_iff g x).mpr nearer)]
      exact ih (h.append_nearer nearer)
    · rw [if_neg ((not_congr (nearerThan_iff g x)).mpr nearer)]
      exact ih (h.append_other nearer)

/-- R105, R106: the selection of a frame with a sighting strong enough. -/
theorem selectSighting_of_seen {strength guard : Nat} {g : List Sighting}
    (some : g.filter (fun x => strength ≤ x.strength) ≠ []) : ∃ before x after,
      NearestIn (g.filter (fun x => strength ≤ x.strength)) before x after
      ∧ selectSighting strength guard g
        = if (before ++ after).any (withinGuard guard x) then .ambiguous x else .selected x := by
  unfold selectSighting
  cases seen : g.filter (fun x => strength ≤ x.strength) with
  | nil => exact absurd seen some
  | cons first rest =>
    obtain ⟨before, x, after, walk, nearest⟩ :=
      nearestIn_nearestFrom rest (seen := [first]) (before := []) (x := first) (after := []) ⟨rfl, by simp, by simp⟩
    have walk : nearestFrom (0, first) 1 rest = (before.length, x) := walk
    have others : (first :: rest).eraseIdx before.length = before ++ after := by
      rw [show first :: rest = before ++ x :: after from nearest.1, List.eraseIdx_append_of_length_le (Nat.le_refl _),
          Nat.sub_self]
      rfl
    exact ⟨before, x, after, nearest, by simp only [walk, others]⟩

/-! ### Frames that are discarded -/

theorem exec_lockSensorFrame {g : List Sighting} (s : State) (wf : sightingsWf g = true) :
    exec (.lockSensorFrame g) s = .next (takeFrame s g) := if_pos wf

theorem isMoving_iff (s : State) : isMoving s = true ↔ ∃ m, s.drive = .moving m := by
  unfold isMoving; split <;> simp_all

theorem trackJudges_iff (s : State) (t : Track) :
    trackJudges s t = true ↔ s.grant.track = .holding false ∧ TrackLooks s t := by
  have still : isMoving s = false ↔ ∀ m, s.drive ≠ .moving m := by
    rw [← Bool.not_eq_true, isMoving_iff, not_exists]
  unfold trackJudges
  split
  · next holds => cases state : t.state <;> simp [TrackLooks, state, holds, still, and_comm]
  · next other => exact ⟨nofun, fun ⟨holds, _⟩ => absurd holds other⟩

/-- Settles O46: the walk of the selection, and the frames that neither the attempt nor the track judges. -/
theorem framesAreJudged : Obligations.FramesAreJudged := by
  refine ⟨fun strength guard g => ⟨fun none => ?_, fun some => ?_⟩, fun s g wf => ?_⟩
  · rw [selectSighting, none]
  · obtain ⟨before, x, after, ⟨seen, ahead, behind⟩, selection⟩ := selectSighting_of_seen (guard := guard) some
    refine ⟨before, x, after, seen, ahead, behind, fun ⟨y, mem, close⟩ => ?_, fun apart => ?_⟩
    · rw [selection, if_pos (List.any_eq_true.mpr ⟨y, mem, (withinGuard_iff ..).mpr close⟩)]
    · refine selection.trans (if_neg fun any => ?_)
      obtain ⟨y, mem, close⟩ := List.any_eq_true.mp any
      exact apart y mem ((withinGuard_iff ..).mp close)
  · rw [exec_lockSensorFrame s wf]
    refine ⟨fun t attempt deaf => ?_, fun none noTrack => ?_, fun t none track deaf => ?_⟩
    · have discards : judgesFrame s t = false := by
        rcases deaf with turning | ranging | moving
        · simp [judgesFrame, turning]
        · simp [judgesFrame, ranging]
        · have moves : isMoving s = true := (isMoving_iff s).mpr moving
          cases phase : t.phase <;> simp [judgesFrame, phase, moves]
      simp [takeFrame, attempt, discards]
    · simp [takeFrame, none, noTrack]
    · have discards : trackJudges s t = false :=
        Bool.eq_false_iff.mpr ((not_congr (trackJudges_iff s t)).mpr fun ⟨holds, looks⟩ =>
        deaf.elim (absurd holds) (absurd looks))
      simp [takeFrame, none, track, discards]

end Sys2Proof.Machine
end

section
/-! PROOFS. The search of an attempt and its rings; fine centring (R104 to R118). -/

namespace Sys2Proof.Machine
open Sys2Proof.Claims

/-! ### A frame that the attempt judges -/

/-- R104: the phases in which a frame is judged. -/
def Judging (t : Attempt) : Prop := t.phase = .sensing ∨ t.phase = .searching ∨ t.phase = .fine

theorem exec_lockSensorFrame_of_attempt {s : State} {t : Attempt} {g : List Sighting} {held : Pointing}
    (attempt : s.attempt = some t) (holding : s.drive = .holding held) (wf : sightingsWf g = true) (phase : Judging t) :
    exec (.lockSensorFrame g) s = .next (afterEvent (judgeFrame s t (judged s g))) := by
  have judges : judgesFrame s t = true := by
    rcases phase with phase | phase | phase <;> simp [judgesFrame, phase, isMoving, holding]
  rw [exec_lockSensorFrame s wf]
  simp only [takeFrame, attempt, judges, if_true]; rfl

theorem clampOffset_eq (x : Int) : clampOffset x = max (-2000) (min 2000 x) := by
  unfold clampOffset; (repeat' split) <;> omega

theorem clampSighting_eq (g : Sighting) : clampSighting g = clamped g := by
  simp [clampSighting, clamped, clampOffset_eq]

theorem finishAttempt_eq (s : State) (t : Attempt) (st : Status) :
    finishAttempt s t st = endAttempt { s with attempt := some t } st none := rfl

theorem drivable_of_holding {s : State} {held : Pointing} (holding : s.drive = .holding held) : Drivable s :=
  .inl ⟨held, holding⟩

/-! ### The search of an attempt -/

theorem attemptSeek_eq {s : State} (drivable : Drivable s) (t : Attempt) (c : Cursor) :
    attemptSeek s t c = soughtOn s t (some c) := by
  simp only [attemptSeek, soughtOn, Option.bind_some, maxPositions]
  cases seekPosition t.solution.raw t.solution.target.v 288 c with
  | none => rfl
  | some x => exact commandMove_of_drivable (by exact drivable) ..

theorem windowOf_eq {s : State} {window : Nat} {x : AimTarget} (h : WindowIs s window x) : windowOf s x = window := by
  cases x with
  | entry id =>
    obtain ⟨e, found, rfl⟩ := h
    simp [windowOf, found]
  | direct p w n => exact h

theorem beginSearch_eq {s : State} {t : Attempt} {a : Aim} {window : Nat} (drivable : Drivable s)
    (slot : slotAt s t.slot = some a) (is : WindowIs s window a.target) :
    beginSearch s t = soughtOn s { t with phase := .searching } (some (ringStart window)) := by
  simp only [beginSearch, attemptAim, slot, windowOf_eq is]
  exact attemptSeek_eq drivable _ _

theorem advanceSearch_eq {s : State} {t : Attempt} {c : Cursor} (drivable : Drivable s) (cursor : t.cursor = some c) :
    advanceSearch s t = soughtOn s t (nextCursor c) := by
  simp only [advanceSearch, cursor, Option.bind_some]
  cases nextCursor c with
  | none => rfl
  | some c' => exact attemptSeek_eq drivable t c'

/-! ### The rings (R109 to R112) -/

theorem ringPosition_distance {k n : Nat} (ring : 1 ≤ k) (low : 1 ≤ n) (high : n ≤ 8 * k) :
    max (ringPosition k n).1.natAbs (ringPosition k n).2.natAbs = k := by
  unfold ringPosition; dsimp only; (repeat' split) <;> dsimp only <;> omega

theorem ringPosition_ne {k m n : Nat} (low : 1 ≤ m) (order : m < n) (high : n ≤ 8 * k) :
    ringPosition k m ≠ ringPosition k n := by
  unfold ringPosition; dsimp only; (repeat' split) <;> simp only [ne_eq, Prod.mk.injEq, not_and] <;> omega

theorem ringPosition_neighbour {k n : Nat} (low : 1 ≤ n) (high : n < 8 * k) :
    ((ringPosition k (n + 1)).1 - (ringPosition k n).1).natAbs
      + ((ringPosition k (n + 1)).2 - (ringPosition k n).2).natAbs = 1 := by
  unfold ringPosition; dsimp only; (repeat' split) <;> dsimp only <;> omega

theorem ringPosition_one (k : Nat) : ringPosition k 1 = ((k : Int), 0) := by
  rw [ringPosition, if_pos (by omega)]; simp

theorem ringPosition_two {k : Nat} (ring : 1 ≤ k) : ringPosition k 2 = ((k : Int), 1) := by
  rw [ringPosition, if_pos (by omega)]; simp

theorem nextCursor_inside {c : Cursor} (h : c.index < 8 * c.ring) :
    nextCursor c = some { c with index := c.index + 1 } :=
  if_pos h

theorem nextCursor_ring {c : Cursor} (h : 8 * c.ring ≤ c.index) (more : c.ring < c.rings) :
    nextCursor c = some { c with ring := c.ring + 1, index := 1 } := by
  rw [nextCursor, if_neg (Nat.not_lt.mpr h), if_pos more]

theorem nextCursor_last {c : Cursor} (h : 8 * c.ring ≤ c.index) (last : c.rings ≤ c.ring) : nextCursor c = none := by
  rw [nextCursor, if_neg (Nat.not_lt.mpr h), if_neg (Nat.not_lt.mpr last)]

/-- R16: the band about a centre on the centre's face. -/
theorem inBandOfFace_iff (centre zenith : Int) : inBandOfFace centre zenith = true
    ↔ if centre < 2000000 then 250000 ≤ zenith ∧ zenith ≤ 1750000 else 2250000 ≤ zenith ∧ zenith ≤ 3750000 := by
  unfold inBandOfFace; split <;> simp

theorem seekPosition_inside {centre : Pointing} {zenith : Int} (left : Nat) {c : Cursor}
    (inside : inBandOfFace zenith (reduce (zenith + (ringPosition c.ring c.index).2 * 1500)) = true) :
    seekPosition centre zenith (left + 1) c = some (c,
      { h := (centre.h + roundDiv ((ringPosition c.ring c.index).1 * 1500 * 65536)
          ((sineWord zenith).natAbs : Int)) % 4000000,
        v := (centre.v + (ringPosition c.ring c.index).2 * 1500) % 4000000 }) := by
  simp only [seekPosition, searchTargets, inside, if_true]; rfl

theorem seekPosition_outside {centre : Pointing} {zenith : Int} (left : Nat) {c : Cursor}
    (outside : ¬ inBandOfFace zenith (reduce (zenith + (ringPosition c.ring c.index).2 * 1500)) = true) :
    seekPosition centre zenith (left + 1) c = (nextCursor c).bind (seekPosition centre zenith left) := by
  simp only [seekPosition, searchTargets, if_neg outside]
  cases nextCursor c <;> rfl

/-- Settles O47: the two empty frames and the ambiguous one; the rings; the cursor; the positions inside the band. -/
theorem searchWalksTheRings : Obligations.SearchWalksTheRings := by
  refine ⟨fun s t g held attempt holding wf => ?_, fun k ring _ => ⟨ringPosition_one k, ringPosition_two ring,
      fun n => ringPosition_distance ring, fun m n => ringPosition_ne, fun n => ringPosition_neighbour⟩,
    fun c => ⟨nextCursor_inside, nextCursor_ring, nextCursor_last⟩, fun centre zenith left c _ _ => ?_⟩
  · have run := exec_lockSensorFrame_of_attempt attempt holding wf
    have drivable := drivable_of_holding holding
    refine ⟨fun a window empty phase slot is => ?_, fun c empty phase cursor => ?_, fun x ambiguous phase => ?_⟩
    · simp only [run (.inl phase), empty, judgeFrame, phase, beginSearch_eq drivable slot is]
    · simp only [run (.inr (.inl phase)), empty, judgeFrame, phase, advanceSearch_eq drivable cursor]
    · simp only [run phase, ambiguous, judgeFrame, clampSighting_eq]; rfl
  · intro i j z inside
    have band : inBandOfFace zenith (reduce (zenith + j * 1500)) = true ↔ inside := inBandOfFace_iff ..
    exact ⟨fun yes => seekPosition_inside left (band.mpr yes),
        fun no => seekPosition_outside left ((not_congr band).mpr no)⟩

/-! ### Fine centring -/

theorem withinLock_iff (s : State) (g : Sighting) :
    (g.x.natAbs ≤ s.settings.lockTolerance && g.y.natAbs ≤ s.settings.lockTolerance) = true ↔ withinLock s g := by
  simp [withinLock]

/-- R113: a selected sighting is tested in FINE, whichever phase selected it. -/
theorem judgeFrame_inside {s : State} (t : Attempt) {x : Sighting} (inside : withinLock s (clamped x)) :
    judgeFrame s t (.selected x) = lockPrism s (inFine t (clamped x)) (clamped x) := by
  have test := (withinLock_iff s (clamped x)).mpr inside
  unfold inFine
  by_cases fine : t.phase = .fine
  · simp only [judgeFrame, fine, if_true]; rw [clampSighting_eq]; exact if_pos test
  · simp only [judgeFrame, fine, if_false]; rw [clampSighting_eq]; exact if_pos test

theorem judgeFrame_outside {s : State} (t : Attempt) {x : Sighting} (outside : ¬ withinLock s (clamped x)) :
    judgeFrame s t (.selected x) = correct s (inFine t (clamped x)) (clamped x) := by
  have test := (not_congr (withinLock_iff s (clamped x))).mpr outside
  unfold inFine
  by_cases fine : t.phase = .fine
  · simp only [judgeFrame, fine, if_true]; rw [clampSighting_eq]; exact if_neg test
  · simp only [judgeFrame, fine, if_false]; rw [clampSighting_eq]; exact if_neg test

theorem lockPrism_of_tilt {s : State} {f : Attempt} {g : Sighting} {tilt : Tilt} {a : Aim}
    (level : tiltOf s.station.latest = some tilt) (slot : slotAt s f.slot = some a) : lockPrism s f g
      = if a.range then sendWaiting { s with attempt := some { f with
            lock := some (lockedOn s tilt g), phase := .ranging, corrections := 0, empties := 0 } }
        else endAttempt { s with attempt := some { f with lock := some (lockedOn s tilt g) } } .locked none := by
  simp only [lockPrism, level, attemptAim, slot, Option.any_some]; rfl

theorem lockPrism_of_no_tilt {s : State} {f : Attempt} (g : Sighting) (level : tiltOf s.station.latest = none) :
    lockPrism s f g = endAttempt { s with attempt := some f } .outOfLevel none := by
  simp only [lockPrism, level]; rfl

theorem correct_of_spent {s : State} {f : Attempt} (g : Sighting) (spent : 4 ≤ f.corrections) :
    correct s f g = endAttempt { s with attempt := some f } .unsteady none := if_pos spent

theorem correct_of_no_tilt {s : State} {f : Attempt} (g : Sighting) (left : f.corrections < 4)
    (level : tiltOf s.station.latest = none) :
    correct s f g = endAttempt { s with attempt := some f } .outOfLevel none := by
  simp only [correct, if_neg (Nat.not_le.mpr left), level]; rfl

theorem correct_of_tilt {s : State} {f : Attempt} {g : Sighting} {tilt : Tilt} (drivable : Drivable s)
    (left : f.corrections < 4) (level : tiltOf s.station.latest = some tilt) : correct s f g
      = moved { s with attempt := some { f with corrections := f.corrections + 1 } }
          (fineTargets (rawNow s) tilt { x := g.x, y := g.y }).1 .acquisition := by
  simp only [correct, if_neg (Nat.not_le.mpr left), level]
  exact commandMove_of_drivable (by exact drivable) ..

theorem sendWaiting_of_free {s : State} {t : Attempt} (attempt : s.attempt = some t) (ranging : t.phase = .ranging)
    (free : s.distance = none) : sendWaiting s = requested s := by
  rw [sendWaiting, if_pos (by simp [attempt, ranging, free]), sendDistanceRequest_acquisition]

theorem sendWaiting_of_busy {s : State} (busy : s.distance ≠ none) : sendWaiting s = s :=
  if_neg (by simp [Option.isNone_iff_eq_none, busy])

theorem slot_inFine (t : Attempt) (g : Sighting) : (inFine t g).slot = t.slot := by
  unfold inFine; split <;> rfl

theorem emptyInFine_first {s : State} {t : Attempt} (first : t.empties = 0) :
    emptyInFine s t = { s with attempt := some { t with empties := 1 } } := by
  simp only [emptyInFine, first]; rfl

theorem emptyInFine_second {s : State} {t : Attempt} (second : 1 ≤ t.empties) :
    emptyInFine s t = endAttempt { s with attempt := some { t with empties := t.empties + 1 } } .obstructed none :=
  if_pos (Nat.succ_le_succ second)

/-- Settles O48: a selected sighting inside and outside the tolerance, and the empty frames in FINE. -/
theorem frameLeadsToFine : Obligations.FrameLeadsToFine := by
  intro s t g held attempt holding wf
  have run := exec_lockSensorFrame_of_attempt attempt holding wf
  have drivable := drivable_of_holding holding
  refine ⟨fun x selected phase => ?_, fun empty phase => ⟨fun first => ?_, fun second => ?_⟩⟩
  · simp only [run phase, selected]
    refine ⟨fun out spent => ?_, fun tries noTilt => ?_,
        fun l tr sample => ⟨fun out left => ?_, fun a inside slot => ?_⟩⟩
    · rw [judgeFrame_outside t out, correct_of_spent _ spent]
    · have level := (noTilt_iff s).mp noTilt
      by_cases inside : withinLock s (clamped x)
      · rw [judgeFrame_inside t inside, lockPrism_of_no_tilt _ level]
      · rw [judgeFrame_outside t inside, correct_of_no_tilt _ (tries.resolve_left inside) level]
    · have level : tiltOf s.station.latest = some { l := l, t := tr } := by rw [sample]; rfl
      rw [judgeFrame_outside t out, correct_of_tilt drivable left level]
    · have level : tiltOf s.station.latest = some { l := l, t := tr } := by rw [sample]; rfl
      rw [judgeFrame_inside t inside, lockPrism_of_tilt level (by rw [slot_inFine]; exact slot)]
      refine ⟨fun plain => by simp only [plain]; rfl, fun ranges free => ?_, fun ranges busy => ?_⟩
      · rw [if_pos ranges, sendWaiting_of_free rfl rfl (by exact free)]
      · rw [if_pos ranges, sendWaiting_of_busy (by exact busy)]
  · simp only [run (.inr (.inr phase)), empty, judgeFrame, phase, emptyInFine_first first]
  · simp only [run (.inr (.inr phase)), empty, judgeFrame, phase, emptyInFine_second second]

end Sys2Proof.Machine
end

section
/-! PROOFS. A track that follows frames, and the tilt samples (R116, R132, R136 to R140, R153 to R155). -/

namespace Sys2Proof.Machine
open Sys2Proof.Claims

/-! ### Searching and following -/

theorem trackSeek_eq {s : State} {t : Track} (track : s.track = some t) (drivable : Drivable s) (centre : Pointing)
    (zenith : Int) (c : Cursor) : trackSeek s t centre zenith c = trackSought s t centre zenith (some c) := by
  have same : { s with track := some t } = s := by rw [← track]
  simp only [trackSeek, trackSought, Option.bind_some, maxPositions, same]
  cases seekPosition centre zenith 288 c with
  | none => rfl
  | some x => exact commandMove_of_drivable (by exact drivable) ..

theorem trackSought_withTrack (s : State) (t : Track) (centre : Pointing) (zenith : Int) (c : Option Cursor) :
    trackSought { s with track := some t } t centre zenith c = trackSought s t centre zenith c := by
  unfold trackSought
  cases c.bind (seekPosition centre zenith 288) <;> rfl

theorem trackCentre_of_acquiring {t : Track} {sol : Solution} (state : t.state = .acquiring)
    (solution : t.solution = some sol) :
    trackCentre t = some (sol.raw, sol.target.v) := by
  simp [trackCentre, state, solution]

theorem trackCentre_of_searching {t : Track} {a : Anchor} (state : t.state = .searching) (anchor : t.anchor = some a) :
    trackCentre t = some (a.raw, a.zenith) := by
  simp [trackCentre, state, anchor]

/-- R136, R138: the rings begin about the centre. -/
theorem trackRings_eq {s : State} {t : Track} {e : Entry} {centre : Pointing} {zenith : Int} (drivable : Drivable s)
    (found : lookup s t.target = some e) (middle : trackCentre t = some (centre, zenith)) :
    trackRings { s with track := some t } t = trackSought s t centre zenith (some (ringStart e.window)) := by
  have window : trackWindow { s with track := some t } t = e.window := trackWindow_of_lookup found
  simp only [trackRings, middle, window]
  rw [trackSeek_eq rfl (by exact drivable), trackSought_withTrack]; rfl

theorem trackFromCursor_eq {s : State} {t : Track} {c : Cursor} {centre : Pointing} {zenith : Int}
    (drivable : Drivable s) (cursor : t.cursor = some c) (middle : trackCentre t = some (centre, zenith)) :
    trackFromCursor { s with track := some t } t = trackSought s t centre zenith (some c) := by
  simp only [trackFromCursor, middle, cursor]
  rw [trackSeek_eq rfl (by exact drivable), trackSought_withTrack]

/-- R136, R139: the next position, or LOST. -/
theorem trackAdvance_eq {s : State} {t : Track} {c : Cursor} {centre : Pointing} {zenith : Int}
    (track : s.track = some t)
    (drivable : Drivable s) (cursor : t.cursor = some c) (middle : trackCentre t = some (centre, zenith)) :
    trackAdvance s t = trackSought s t centre zenith (nextCursor c) := by
  simp only [trackAdvance, middle, cursor]
  cases nextCursor c with
  | none =>
    have same : { s with track := some t } = s := by rw [← track]
    simp only [trackSought, Option.bind_none, same]
  | some c' => exact trackSeek_eq track drivable ..

theorem trackFollow_of_no_tilt {s : State} (t : Track) (g : Sighting) (level : tiltOf s.station.latest = none) :
    trackFollow s t g = endTrack s (some .outOfLevel) := by
  simp only [trackFollow, level]

theorem trackFollow_of_tilt {s : State} {tilt : Tilt} (t : Track) (g : Sighting) (drivable : Drivable s)
    (level : tiltOf s.station.latest = some tilt) : trackFollow s t g
      = moved { s with track := some (followed s t tilt g) }
          (fineTargets (rawNow s) tilt { x := g.x, y := g.y }).1 .track := by
  simp only [trackFollow, level]
  exact commandMove_of_drivable (by exact drivable) ..

/-! ### A frame that the track judges -/

theorem exec_lockSensorFrame_of_track {s : State} {t : Track} {g : List Sighting} (none : s.attempt = none)
    (track : s.track = some t) (holds : s.grant.track = .holding false) (wf : sightingsWf g = true)
        (looks : TrackLooks s t) :
    exec (.lockSensorFrame g) s = .next (afterEvent (trackFrame s t (judged s g))) := by
  have judges : trackJudges s t = true := (trackJudges_iff s t).mpr ⟨holds, looks⟩
  rw [exec_lockSensorFrame s wf]
  simp only [takeFrame, none, track, judges, if_true]; rfl

theorem isMoving_eq_false {s : State} (h : ∀ m, s.drive ≠ .moving m) : isMoving s = false :=
  Bool.eq_false_iff.mpr ((not_congr (isMoving_iff s)).mpr fun ⟨m, moving⟩ => h m moving)

/-- R132: in SEARCHING a frame is judged between the moves. -/
theorem still_of_searching {s : State} {t : Track} (looks : TrackLooks s t) (state : t.state = .searching) :
    isMoving s = false := by
  rcases looks with other | other | ⟨other, _⟩ | ⟨stands, _⟩
  · simp [state] at other
  · simp [state] at other
  · simp [state] at other
  · exact isMoving_eq_false stands

/-- R132: so it is at a ring position of ACQUIRING. -/
theorem still_of_ring {s : State} {t : Track} (looks : TrackLooks s t) (state : t.state = .acquiring)
    (phase : t.acquirePhase = some .searching) : isMoving s = false := by
  rcases looks with other | other | ⟨_, other⟩ | ⟨stands, _⟩
  · simp [state] at other
  · simp [state] at other
  · simp [phase] at other
  · exact isMoving_eq_false stands

/-- R137: wherever the track looks, a selected sighting is followed. -/
theorem trackFrame_selected {s : State} {t : Track} {sel : Selection} {x : Sighting} (looks : TrackLooks s t)
    (selected : sel = .selected x) : ∃ t', trackFrame s t sel = trackFollow s t' x
      ∧ ∀ tilt, followed s t' tilt x = followed s t tilt x := by
  subst selected
  rcases looks with state | state | ⟨state, phase⟩ | ⟨stands, state | ⟨state, phase⟩⟩
  · exact ⟨t, by simp only [trackFrame, state, trackJudge, trackSighting], fun _ => rfl⟩
  · exact ⟨t, by simp only [trackFrame, state, trackJudge, trackSighting], fun _ => rfl⟩
  · exact ⟨t, by simp only [trackFrame, state, phase, trackJudge, trackSighting], fun _ => rfl⟩
  · refine ⟨t, ?_, fun _ => rfl⟩
    simp only [trackFrame, state, isMoving_eq_false stands, trackJudge, trackSighting]
    exact ite_self _
  · exact ⟨t, by simp only [trackFrame, state, phase, isMoving_eq_false stands, trackJudge, trackSighting]; rfl,
      fun _ => rfl⟩

theorem trackJudge_of_none {s u : State} {sel : Selection} (t : Track) (none : ∀ x, sel ≠ .selected x) :
    trackJudge s t sel u = u := by
  cases sel with
  | selected x => exact absurd rfl (none x)
  | _ => rfl

/-- Settles O49: the frame with a sighting selected, and the frame without one by the track's state. -/
theorem trackFollowsFrames : Obligations.TrackFollowsFrames := by
  intro s t g none track holds wf drivable looks
  rw [exec_lockSensorFrame_of_track none track holds wf looks]
  refine ⟨fun x selected => ?_, fun empty => ⟨fun state => ?_, fun state => ?_, fun sol state solution =>
    ⟨fun e phase found => ?_, fun c phase cursor => ?_⟩,
        fun a c state anchor cursor => ⟨fun centre => ?_, fun ring => ?_⟩⟩⟩
  · obtain ⟨t', frame, same⟩ := trackFrame_selected looks selected
    rw [frame]
    refine ⟨fun noTilt => by rw [trackFollow_of_no_tilt _ _ ((noTilt_iff s).mp noTilt)], fun l tr sample => ?_⟩
    have level : tiltOf s.station.latest = some { l := l, t := tr } := by rw [sample]; rfl
    rw [trackFollow_of_tilt _ _ drivable level, same]
  · simp only [trackFrame, state, trackJudge_of_none t empty]; rfl
  · simp only [trackFrame, state, trackJudge_of_none t empty]
  · simp only [trackFrame, state, phase, trackJudge_of_none _ empty]
    exact congrArg (fun u => Host.Outcome.next (afterEvent u))
      (trackRings_eq drivable (by exact found) (trackCentre_of_acquiring rfl solution))
  · simp only [trackFrame, state, phase, still_of_ring looks state phase, trackJudge_of_none _ empty]
    exact congrArg (fun u => Host.Outcome.next (afterEvent u))
      (trackAdvance_eq track drivable cursor (trackCentre_of_acquiring state solution))
  · simp only [trackFrame, state, still_of_searching looks state, centre, trackJudge_of_none _ empty]
    exact congrArg (fun u => Host.Outcome.next (afterEvent u))
      (trackFromCursor_eq drivable cursor (trackCentre_of_searching rfl anchor))
  · simp only [trackFrame, state, still_of_searching looks state, ring, trackJudge_of_none _ empty]
    exact congrArg (fun u => Host.Outcome.next (afterEvent u))
      (trackAdvance_eq track drivable cursor (trackCentre_of_searching state anchor))

/-! ### Tilt samples -/

theorem exec_tiltSample {x : TiltSample} (s : State) (wf : x.wf = true) :
    exec (.tiltSample x) s = .next (overRange (takeTilt s x) x) := if_pos wf

/-- R154: the part with the sample and, for the first over range, the notice. -/
def overRangeNoticed (s : State) : State :=
  if s.station.latest = some .overRange then { s with station := { s.station with latest := some .overRange } }
  else notifyAll { s with station := { s.station with latest := some .overRange } } .outOfLevel

/-- R155: a sample over range makes a SET station SUSPECT. -/
def overRangeTested (s : State) : State :=
  if s.station.state = .set then notifyAll { overRangeNoticed s with
      station := { (overRangeNoticed s).station with state := .suspect } } .orientationSuspect
  else overRangeNoticed s

theorem isOverRange_iff (x : Option TiltSample) : isOverRange x = true ↔ x = some .overRange := by
  unfold isOverRange; split <;> simp_all

theorem takeTilt_overRange (s : State) : takeTilt s .overRange = overRangeTested s := by
  have noticed : levelNotice { s with station := { s.station with latest := some .overRange } }
      s.station.latest .overRange
      = overRangeNoticed s := by
    by_cases again : s.station.latest = some .overRange
    · simp [levelNotice, overRangeNoticed, again, isOverRange]
    · have first : isOverRange s.station.latest = false :=
        Bool.eq_false_iff.mpr ((not_congr (isOverRange_iff _)).mpr again)
      simp [levelNotice, overRangeNoticed, first, again]
  have state : (overRangeNoticed s).station.state = s.station.state := by
    unfold overRangeNoticed; split
    · rfl
    · simp
  rw [takeTilt, noticed]
  simp [disturbanceTest, disturbs, overRangeTested, state]

theorem overRangeTested_keeps (s : State) :
    (overRangeTested s).attempt = s.attempt ∧ (overRangeTested s).drive = s.drive
    ∧ (overRangeTested s).elapsed = s.elapsed ∧ (overRangeTested s).grant = s.grant := by
  unfold overRangeTested overRangeNoticed
  split <;> split <;> simp

theorem stoppedDrive_congr {s u : State} (drive : u.drive = s.drive) (time : u.elapsed = s.elapsed) :
    stoppedDrive u = stoppedDrive s := by
  simp only [stoppedDrive, stoppedMove, drive, time]

/-- R116: a sample over range ends an attempt in FINE with its move stopped. -/
theorem attemptTilt_of_fine {s u : State} (attempt : u.attempt = s.attempt) (drive : u.drive = s.drive)
    (time : u.elapsed = s.elapsed) (fine : ∃ t, s.attempt = some t ∧ t.phase = .fine) :
    attemptTilt u .overRange = endAttempt { u with drive := stoppedDrive s } .outOfLevel none := by
  obtain ⟨t, held, phase⟩ := fine
  rw [attemptTilt, if_pos (by simp [attempt, held, phase]), stopDrive_eq, stoppedDrive_congr drive time]

theorem attemptTilt_of_other {s u : State} (attempt : u.attempt = s.attempt)
    (other : ¬ ∃ t, s.attempt = some t ∧ t.phase = .fine) : attemptTilt u .overRange = u := by
  refine if_neg fun fine => other ?_
  obtain ⟨-, fine⟩ := (Bool.and_eq_true _ _).mp fine
  obtain ⟨t, held, phase⟩ := (Option.any_eq_true _ _).mp fine
  exact ⟨t, attempt ▸ held, by simpa using phase⟩

theorem disturbs_iff (guard : Nat) (r : Tilt) (l t : Int) : disturbs guard (some r) (.values l t) = true
    ↔ guard < (l - r.l).natAbs ∨ guard < (t - r.t).natAbs := by
  simp only [disturbs, Option.any_some, Bool.or_eq_true, decide_eq_true_eq]
  omega

theorem takeTilt_values (s : State) (l t : Int) : takeTilt s (.values l t)
    = disturbanceTest { s with station := { s.station with latest := some (.values l t) } } (.values l t) := rfl

theorem overRange_values (s : State) (l t : Int) : overRange s (.values l t) = s := if_neg (by simp)

/-- Settles O50: the samples over range and those within it. -/
theorem tiltSampleIsTested : Obligations.TiltSampleIsTested := by
  refine ⟨fun s => ?_, fun l t s wf => ?_⟩
  · intro sampled noticed tested ended
    obtain ⟨attempt, drive, time, grant⟩ := overRangeTested_keeps s
    have course : attemptTilt (overRangeTested s) .overRange = ended := by
      by_cases fine : ∃ t, s.attempt = some t ∧ t.phase = .fine
      · exact (attemptTilt_of_fine attempt drive time fine).trans (if_pos fine).symm
      · exact (attemptTilt_of_other attempt fine).trans (if_neg fine).symm
    have track : ended.grant.track = s.grant.track := by
      rw [← course, attemptTilt]
      split
      · rw [endAttempt_grantTrack, stopDrive_eq, grant]
      · rw [grant]
    rw [exec_tiltSample s rfl, takeTilt_overRange, overRange, if_pos rfl, course]
    refine ⟨fun lets => ?_, fun b holds => ?_⟩
    · rw [endHoldingTrack_of_other _ (by simpa only [track] using lets)]
    · rw [endHoldingTrack_of_holding _ (track.trans holds)]
  · intro sampled
    rw [exec_tiltSample s wf, overRange_values, takeTilt_values, disturbanceTest]
    refine ⟨fun other => by simp [other, sampled], fun r set reference => ⟨fun calmL calmT => ?_, fun moves => ?_⟩⟩
    · have calm : ¬ disturbs s.settings.tiltGuard (some r) (.values l t) = true :=
        (not_congr (disturbs_iff ..)).mpr (by omega)
      exact congrArg _ (if_neg (by simpa [set, reference] using calm))
    · exact congrArg _ (if_pos (by simpa [set, reference] using (disturbs_iff ..).mpr moves))

end Sys2Proof.Machine
end

section
/-! PROOFS. Counts of the clock, firings, and the deadlines (R77, R138, R146, R168 to R179, R188 to R193). -/

namespace Sys2Proof.Machine
open Sys2Proof.Claims

/-! ### Counts -/

theorem countClock_of_low {c : Clock} (low : c.sub < 1023) : countClock c = { c with sub := c.sub + 1 } := if_pos low

theorem countClock_of_second {c : Clock} (last : c.sub = 1023) (low : c.second < 59) :
    countClock c = { c with second := c.second + 1, sub := 0 } := by
  rw [countClock, if_neg (by omega), carrySecond, if_pos (by exact low)]

theorem countClock_of_minute {c : Clock} (ok : c.ok = true) (last : c.sub = 1023) (full : c.second = 59) :
    countClock c = minuteAfter c := by
  rw [countClock, if_neg (by omega), carrySecond, if_neg (show ¬ c.second < 59 by omega)]
  exact (carryMinute_eq (c := c) ok :)

theorem minuteAfter_sub (c : Clock) : (minuteAfter c).sub = 0 := by
  unfold minuteAfter; dsimp only; (repeat' split) <;> rfl

theorem yearWrapped_of_year {before after : Clock} (same : after.year = before.year) :
    yearWrapped before after = false := by
  simp [yearWrapped, same]

/-- R168: a count off every boundary. -/
theorem countOnce_plain {s : State} {c : Clock} (count : countClock s.clock = c) (kept : yearWrapped s.clock c = false)
    (off : c.sub % 64 ≠ 0) : countOnce s = { s with clock := c, elapsed := (s.elapsed / 625 + 1) * 625 } := by
  have second : c.sub ≠ 0 := fun zero => off (by rw [zero])
  simp only [countOnce, count, if_neg off, if_neg second]
  exact setClock_of_kept (by exact kept)

/-- R173: a count on a tick that is no second boundary. -/
theorem countOnce_tick {s : State} {c : Clock} (count : countClock s.clock = c) (kept : yearWrapped s.clock c = false)
    (on : c.sub % 64 = 0) (second : c.sub ≠ 0) : countOnce s
      = { s with clock := c, elapsed := (s.elapsed / 625 + 1) * 625, tickDue := some c } := by
  simp only [countOnce, count, if_pos on, if_neg second]
  rw [setClock_of_kept (by exact kept)]; rfl

/-- R173, R175: a count on a second boundary. -/
theorem countOnce_boundary {s : State} {c : Clock} (count : countClock s.clock = c)
    (kept : yearWrapped s.clock c = false) (zero : c.sub = 0) : countOnce s = atBoundary s c := by
  simp only [countOnce, count, zero, Nat.zero_mod, if_true]
  rw [setClock_of_kept (by exact kept)]; rfl

/-- R169: the carry out of year 99 is told to every port. -/
theorem countOnce_wrapped {s : State} {c : Clock} (count : countClock s.clock = c)
    (wrapped : yearWrapped s.clock c = true)
    (zero : c.sub = 0) : countOnce s = notifyAll (atBoundary s c) .clockUnset := by
  simp only [countOnce, count, zero, Nat.zero_mod, if_true]
  rw [setClock_of_wrapped (by exact wrapped)]; rfl

theorem countOnce_of_lastMinute {s : State} (ok : s.clock.ok = true) (last : s.clock.sub = 1023)
    (full : s.clock.second = 59)
    (end_ : LastMinute s.clock) : countOnce s = notifyAll (atBoundary s (minuteAfter s.clock)) .clockUnset :=
  countOnce_wrapped (countClock_of_minute ok last full) ((yearWrapped_minuteAfter ok).mpr end_) (minuteAfter_sub _)

/-! ### Firings -/

theorem testRound_of_untested {s : State} {n : RoundNo} {c : Clock} (boundary : s.boundary = some c)
    (waits : n ∈ s.untested) :
    testRound s n = fireRound (passed s n) n c := by
  simp only [testRound, boundary]
  exact if_pos (by simpa using waits)

theorem fireRound_of_no_match {s : State} {n : RoundNo} {c : Clock} (no : matchesAt c (roundAt s n).matching = false) :
    fireRound s n c = s := if_neg (by simp [no])

theorem fireRound_of_match {s : State} {n : RoundNo} {c : Clock} (yes : matchesAt c (roundAt s n).matching = true) :
    fireRound s n c = match (roundAt s n).state with
      | .disarmed => s
      | .armed => afterEvent (startRun s n c)
      | .running => putRound s n { roundAt s n with missed := saturate ((roundAt s n).missed + 1) } := if_pos yes

/-- Settles O51: the counts by the boundary they reach, and a round's test at a boundary. -/
theorem countsAndFirings : Obligations.CountsAndFirings := by
  refine ⟨fun s low off => ?_, fun s low on => ?_, fun s w v week clock => ?_, fun s last => ⟨fun low => ?_,
    fun ok full goes => ?_, fun ok full ends => ?_⟩, fun n c s boundary waits => ?_⟩
  · exact congrArg _ (countOnce_plain (countClock_of_low low) (yearWrapped_of_year rfl) off)
  · exact congrArg _ (countOnce_tick (countClock_of_low low) (yearWrapped_of_year rfl) on (Nat.succ_ne_zero _))
  · have ok : s.clock.ok = true := by
      rw [clock, clock_ok_iff]
      simp [monthLength, week]
    have next : minuteAfter s.clock = { year := 0, month := 1, day := 1, weekday := (w + 1) % 7, hour := 0, minute := 0,
                                        second := 0, sub := 0, valid := false } := by rw [clock]; rfl
    have counted := countOnce_of_lastMinute ok (by rw [clock]) (by rw [clock])
        (by rw [clock]; exact ⟨rfl, rfl, rfl, rfl, rfl⟩)
    rw [next] at counted
    exact congrArg _ counted
  · exact congrArg _ (countOnce_boundary (countClock_of_second last low) (yearWrapped_of_year rfl) rfl)
  · exact congrArg _ (countOnce_boundary (countClock_of_minute ok last full)
      (Bool.eq_false_iff.mpr ((not_congr (yearWrapped_minuteAfter ok)).mpr goes)) (minuteAfter_sub _))
  · exact congrArg _ (countOnce_of_lastMinute ok last full ends)
  · have run : exec (.roundFire n) s = .next (fireRound (passed s n) n c) :=
      congrArg _ (testRound_of_untested boundary waits)
    have round : roundAt (passed s n) n = roundAt s n := rfl
    rw [run]
    refine ⟨fun stands => ?_, fun yes running => ?_, fun yes armed => ?_⟩
    · rcases stands with no | disarmed
      · rw [fireRound_of_no_match (by exact no)]
      · cases yes : matchesAt c (roundAt s n).matching with
        | false => rw [fireRound_of_no_match (by exact yes)]
        | true => rw [fireRound_of_match (by exact yes)]; simp only [round, disarmed]
    · rw [fireRound_of_match (by exact yes)]; simp only [round, running]; rfl
    · rw [fireRound_of_match (by exact yes)]; simp only [round, armed]; rfl

/-! ### Deadlines of the work -/

theorem arrives_eq_false {s : State} {d : Nat} (h : ¬ Arrives s d) : arrives s d = false :=
  Bool.eq_false_iff.mpr ((not_congr (arrives_iff s d)).mpr h)

theorem trackSearch_eq {s : State} {t : Track} {a : Anchor} {e : Entry} (drivable : Drivable s)
    (anchor : t.anchor = some a) (found : lookup s t.target = some e) : trackSearch s t = trackSought s
      { t with state := .searching, coastDeadline := none, centreLook := false } a.raw a.zenith
          (some (ringStart e.window)) :=
  trackRings_eq drivable (by exact found) (trackCentre_of_searching rfl anchor)

theorem holdTest_of_waiting {s : State} {t : Track} {b : Bool} (track : s.track = some t) (passed : t.holdPassed = true)
    (waits : t.aimsWaiting = true) (holds : s.grant.track = .holding b) :
    holdTest s = endTrack s (some .holdExpired) := by
  rw [holdTest, if_pos (by simp [track, passed, waits]), endHoldingTrack_of_holding _ holds]

theorem holdTest_of_none {s : State} {t : Track} (track : s.track = some t) (none : t.aimsWaiting = false) :
    holdTest s = s :=
  if_neg (by simp [track, none])

/-- R146: the hold deadline, when it arrives, is kept as passed and tested once. -/
theorem holdDeadline_of_arrived {s : State} {t : Track} {d : Nat} (track : s.track = some t)
    (deadline : t.holdDeadline = some d) (first : t.holdPassed = false) (now : Arrives s d) :
    exec .holdDeadline s = .next (afterEvent (holdTest (passHold (reach s d) t))) := by
  simp only [exec, execHoldDeadline, holdOver, track, deadline, first, (arrives_iff s d).mpr now]; rfl

/-- R75, R146: with an aim QUEUED in a slot the track knows of a waiting aim. -/
theorem track_putSlot_queued {s : State} {t : Track} (track : s.track = some t) (i : SlotNo) {a : Aim}
    (queued : a.state = .queued) : (putSlot s i (some a)).track = some { t with aimsWaiting := true } := by
  have waits : anyQueued (s.slots.set i (some a)) = true :=
    List.any_eq_true.mpr ⟨i, mem_allSlots i, by simp [isQueued, queued]⟩
  simp [putSlot, track, waits]

/-- Settles O54: each deadline at its time and before it, and the aim that enters after the hold deadline. -/
theorem workDeadlinesArrive : Obligations.WorkDeadlinesArrive := by
  refine ⟨fun s i a due slot state => ⟨fun now => ?_, fun early => ?_⟩,
    fun s t d a e track state deadline anchor found drivable => ⟨fun now => ?_, fun early => ?_⟩,
    fun s t d track deadline first => ⟨fun now none => ?_, fun b now waits holds => ?_, fun early => ?_⟩,
    fun s t b i a track late holds => ?_⟩
  · simp only [exec, execRetryDue, retryAim, slot, state, (arrives_iff s due).mpr now, if_true]; rfl
  · simp only [exec, execRetryDue, retryAim, slot, state, arrives_eq_false early]; rfl
  · simp only [exec, execCoastDeadline, endCoast, track, state, deadline, (arrives_iff s d).mpr now, if_true]
    exact congrArg (fun u => Host.Outcome.next (afterEvent u))
        (trackSearch_eq (by exact drivable) anchor (by exact found))
  · simp only [exec, execCoastDeadline, endCoast, track, state, deadline, arrives_eq_false early]; rfl
  · rw [holdDeadline_of_arrived track deadline first now,
      holdTest_of_none (t := { t with holdPassed := true }) rfl none]
    rfl
  · rw [holdDeadline_of_arrived track deadline first now,
      holdTest_of_waiting (t := { t with holdPassed := true }) rfl rfl waits (by exact holds)]
    rfl
  · simp only [exec, execHoldDeadline, holdOver, track, deadline, first, arrives_eq_false early]; rfl
  · intro queued
    have waiting : queued.track = some { t with aimsWaiting := true } := track_putSlot_queued track i rfl
    exact holdTest_of_waiting (t := { t with aimsWaiting := true }) (b := b) (by simpa using waiting) late rfl
      (by simpa [queued] using holds)

/-! ### Settle end and the idle deadline -/

theorem driveSettleEnd_of_settling {s : State} (settling : s.drive = .settling) :
    driveSettleEnd s = { s with drive := .holding { h := s.encoder.h, v := s.encoder.v } } := by
  simp only [driveSettleEnd, settling]; rfl

theorem driveReturnToRest_of_settling {s : State} (settling : s.drive = .settling) :
    driveReturnToRest s = { s with drive := .off } := by
  simp only [driveReturnToRest, settling]

/-- Settles O55: the two endings of a wake, and the idle deadline. -/
theorem settleAndIdleDeadlines : Obligations.SettleAndIdleDeadlines := by
  refine ⟨fun s d causes waking settling now => ⟨fun alone released => ?_, fun more => ?_⟩,
    fun s d run now => ⟨fun idle => ?_, fun busy => ?_⟩⟩
  · have returns : settle (reach s d) causes = driveReturnToRest { reach s d with power := .rest } := by
      have line : (reach s d).wakeLine = false := released
      exact if_pos (by rw [alone, line]; rfl)
    simp only [exec, execSettleDeadline, waking, (arrives_iff s d).mpr now, if_true]
    rw [returns, driveReturnToRest_of_settling (by exact settling)]; rfl
  · have runs : settle (reach s d) causes
        = afterEvent (notifyAll { driveSettleEnd (reach s d) with power := .run none } .woke) := by
      refine if_neg fun back => ?_
      obtain ⟨alone, released⟩ : causes = lineAlone ∧ (reach s d).wakeLine = false := by simpa using back
      rcases more with more | more
      · exact more alone
      · exact absurd (released.symm.trans more) (by decide)
    simp only [exec, execSettleDeadline, waking, (arrives_iff s d).mpr now, if_true]
    rw [runs, driveSettleEnd_of_settling (by exact settling)]; rfl
  · simp only [exec, execIdleDeadline, run, restAtDeadline, (arrives_iff s d).mpr now, idle]; rfl
  · simp only [exec, execIdleDeadline, run, restAtDeadline, (arrives_iff s d).mpr now, busy]; rfl

end Sys2Proof.Machine
end

section
/-! PROOFS. The track's fixes and the endings of a distance request (R40, R118 to R120, R141 to R143). -/

namespace Sys2Proof.Machine
open Sys2Proof.Claims

/-! ### The latest-fix slot -/

/-- R79: a record posted at a port leaves every port its latest fix and its overrun count. -/
theorem latestFix_postReply (s : State) (p q : Port) (r : Reply) (d : Bool) :
    (portRecord (postReply s p r d) q).fix = (portRecord s q).fix
    ∧ (portRecord (postReply s p r d) q).overrun = (portRecord s q).overrun := by
  by_cases same : q = p
  · subst same
    unfold postReply; split
    · simp [appendReply, pulseAt_eq]
    · simp [hold]
  · simp [portRecord_postReply_other _ _ _ same]

theorem latestFix_breakClaim (s : State) (p q : Port) (id : Nat) (cause : ChangeCause) :
    (portRecord (breakClaim s p id cause) q).fix = (portRecord s q).fix
    ∧ (portRecord (breakClaim s p id cause) q).overrun = (portRecord s q).overrun := by
  unfold breakClaim; split
  · split
    · exact latestFix_postReply ..
    · exact ⟨rfl, rfl⟩
  · exact ⟨rfl, rfl⟩

theorem latestFix_reportModification (s : State) (id : Nat) (cause : ChangeCause) (q : Port) :
    (portRecord (reportModification s id cause) q).fix = (portRecord s q).fix
    ∧ (portRecord (reportModification s id cause) q).overrun = (portRecord s q).overrun := by
  simp only [reportModification, latestFix_breakClaim, and_self]

/-! ### What a fix writes -/

theorem observeEntry_of_located {s : State} {id : Nat} {w : Fin 4} {e : Entry} (located : locate s id = some (w, e))
    (f : Entry → Entry) : observeEntry s id f = reportModification (updateEntry s id f) id .observed := by
  simp [observeEntry, lookup, located]

/-- R39: the update is in the way that held the entry. -/
theorem way_observeEntry {s : State} {id : Nat} {w : Fin 4} {e : Entry} (located : locate s id = some (w, e))
    {f : Entry → Entry} (same : (f e).id = e.id) : (setAt (observeEntry s id f) (setOf id)).ways[w] = some (f e) := by
  have held := (locate_eq_some (locate_updateEntry located same)).1
  rw [observeEntry_of_located located]
  simpa only [setAt, reportModification_keeps] using held

/-- R40, R51: the update breaks every reservation of the entry. -/
theorem claim_observeEntry {s : State} {id : Nat} {w : Fin 4} {e : Entry} (located : locate s id = some (w, e))
    (f : Entry → Entry) {p : Port} (reserved : (claim s p).reservation = some id) :
    claim (observeEntry s id f) p = { reservation := none, wait := none } := by
  rw [observeEntry_of_located located]
  exact (brokenAt_reportModification _ id .observed p).1 (by simpa [claim] using reserved)

theorem latestFix_observeEntry (s : State) (id : Nat) (f : Entry → Entry) (q : Port) :
    (portRecord (observeEntry s id f) q).fix = (portRecord s q).fix
    ∧ (portRecord (observeEntry s id f) q).overrun = (portRecord s q).overrun := by
  unfold observeEntry; split
  · simp only [latestFix_reportModification]
    simp [portRecord]
  · exact ⟨rfl, rfl⟩

theorem fixObservation_eq (x : Fix) : fixObservation x = fixSeen x := by
  unfold fixObservation fixSeen
  cases x.state <;> rfl

/-- R141: the part with the track's record of a fix, and with the fix update of its entry. -/
def fixObserved (s : State) (t : Track) (x : Fix) : State :=
  observeEntry { s with track := some (trackAfterFix t x (portRecord s t.owner).fix.isSome) } t.target
    (fun e => { e with lastObs := some (fixSeen x) })

theorem formFix_eq (s : State) (t : Track) (x : Fix) :
    formFix s t x = modPort (fixObserved s t x) t.owner (writeFix (fixObserved s t x).elapsed x) := by
  simp only [formFix, fixObservation_eq]; rfl

theorem writeFix_fix (now : Nat) (x : Fix) (q : PortRecord) : (writeFix now x q).fix = some x := by
  simp [writeFix, pulseAt_eq]

theorem writeFix_overrun (now : Nat) (x : Fix) (q : PortRecord) :
    (writeFix now x q).overrun = if q.fix.isSome then min 255 (q.overrun + 1) else q.overrun := by
  simp [writeFix, pulseAt_eq, saturate]

theorem formFix_track (s : State) (t : Track) (x : Fix) :
    (formFix s t x).track = some (trackAfterFix t x (portRecord s t.owner).fix.isSome) := by
  simp [formFix_eq, fixObserved]

theorem formFix_fix (s : State) (t : Track) (x : Fix) : (portRecord (formFix s t x) t.owner).fix = some x := by
  rw [formFix_eq, portRecord_modPort_same, writeFix_fix]

theorem formFix_overrun (s : State) (t : Track) (x : Fix) : (portRecord (formFix s t x) t.owner).overrun
    = if (portRecord s t.owner).fix.isSome then min 255 ((portRecord s t.owner).overrun + 1)
      else (portRecord s t.owner).overrun := by
  simp only [formFix_eq, portRecord_modPort_same, writeFix_overrun, fixObserved, latestFix_observeEntry]; rfl

theorem formFix_way {s : State} {t : Track} {w : Fin 4} {e : Entry} (located : locate s t.target = some (w, e))
    (x : Fix) :
    (setAt (formFix s t x) (setOf t.target)).ways[w] = some { e with lastObs := some (fixSeen x) } := by
  rw [formFix_eq]
  exact way_observeEntry (by exact located) rfl

theorem formFix_claim {s : State} {t : Track} {w : Fin 4} {e : Entry} (located : locate s t.target = some (w, e))
    (x : Fix) {p : Port} (reserved : (claim s p).reservation = some t.target) :
    claim (formFix s t x) p = { reservation := none, wait := none } := by
  rw [formFix_eq]
  exact claim_observeEntry (by exact located) _ (by exact reserved)

/-- R141: a fix writes the track, the entry, the reservations of it and the ports. -/
theorem formFix_keeps (s : State) (t : Track) (x : Fix) :
    (formFix s t x).tickDue = s.tickDue ∧ (formFix s t x).slots = s.slots ∧ (formFix s t x).drive = s.drive
    ∧ (formFix s t x).clock = s.clock ∧ (formFix s t x).distance = s.distance ∧ (formFix s t x).elapsed = s.elapsed
    ∧ (formFix s t x).requests = s.requests := by
  simp [formFix_eq, fixObserved]

/-! ### Ticks -/

theorem trackTick_on_boundary {s : State} {t : Track} {c : Clock} (due : s.tickDue = some c) (track : s.track = some t)
    (on : onBoundary c t.interval = true) : exec .trackTick s = .next (tickTrack { s with tickDue := none } t c) := by
  simp only [exec, execTrackTick, takeTick, due, track, on, if_true]

theorem tickTrack_of_no_fix {t : Track} (still : fixStateOf t.state = none) (s : State) (c : Clock) :
    tickTrack s t c = s := by
  simp only [tickTrack, still]

theorem tickTrack_of_fix {t : Track} {st : FixState} {seen : LastSeen} (state : fixStateOf t.state = some st)
    (last : t.lastSeen = some seen) (s : State) (c : Clock) :
    tickTrack s t c = trackDistanceRequest (formFix s t (tickFix t seen c st)) t st := by
  simp only [tickTrack, state, last]; rfl

/-- R143: the request a tick sends writes the request record and the count of requests. -/
theorem trackDistanceRequest_eq (s : State) (t : Track) (st : FixState) : ∃ n, trackDistanceRequest s t st
    = { s with
        requests := n
        distance := if t.range = true ∧ st = .tracking ∧ s.distance = none then
            some { requester := .track, abandoned := false, expiry := s.elapsed + 640 * 4000, number := s.requests }
          else s.distance } := by
  by_cases sends : t.range = true ∧ st = .tracking ∧ s.distance = none
  · refine ⟨s.requests + 1, ?_⟩
    obtain ⟨range, tracking, free⟩ := sends
    simp only [trackDistanceRequest, range, tracking, free]; rfl
  · refine ⟨s.requests, ?_⟩
    rw [if_neg sends]
    exact if_neg (by simpa [Option.isNone_iff_eq_none, and_assoc] using sends)

/-- Settles O52: a tick that writes no fix, and the parts of one that does. -/
theorem tickWritesTheFix : Obligations.TickWritesTheFix := by
  intro s t c due track on
  refine ⟨fun still => ?_, fun st seen w e state last located => ?_⟩
  · have none : fixStateOf t.state = none := by rcases still with h | h | h <;> rw [h] <;> rfl
    rw [trackTick_on_boundary due track on, tickTrack_of_no_fix none]
  · have fixes : fixStateOf t.state = some st := by rcases state with ⟨h, rfl⟩ | ⟨h, rfl⟩ <;> rw [h] <;> rfl
    intro x filled
    have ticked : exec .trackTick s = .next (trackDistanceRequest (formFix { s with tickDue := none } t x) t st) := by
      rw [trackTick_on_boundary due track on, tickTrack_of_fix fixes last]
    obtain ⟨n, request⟩ := trackDistanceRequest_eq (formFix { s with tickDue := none } t x) t st
    obtain ⟨tick, slots, drive, clock, distance, elapsed, requests⟩ := formFix_keeps { s with tickDue := none } t x
    refine ⟨_, ticked, ?_⟩
    rw [request, distance, elapsed, requests]
    exact ⟨formFix_track .., formFix_fix .., formFix_overrun .., formFix_way (by exact located) x,
      fun p reserved => formFix_claim (by exact located) x (by exact reserved), tick, slots, drive, clock, rfl⟩

/-! ### The distance request record -/

theorem sendWaiting_of_notRanging {s : State} (idle : NotRanging s) : sendWaiting s = s := by
  have waits : s.attempt.any (fun t => t.phase = .ranging) = false := by
    cases attempt : s.attempt with
    | none => rfl
    | some t => simpa using idle t attempt
  exact if_neg (by simp [waits])

/-- R118: what becomes of the part as the record becomes FREE. -/
theorem sendWaiting_of_freed {s u : State} (freed : Freed s u) : sendWaiting { s with distance := none } = u := by
  obtain ⟨stands, sends⟩ := freed
  by_cases idle : NotRanging s
  · rw [stands idle]
    exact sendWaiting_of_notRanging idle
  · obtain ⟨t, attempt, ranging⟩ : ∃ t, s.attempt = some t ∧ t.phase = .ranging := by simpa [NotRanging] using idle
    rw [sends idle]
    exact sendWaiting_of_free attempt ranging rfl

theorem sendWaiting_endAttempt {s : State} {t : Attempt} (attempt : s.attempt = some t) (st : Status) (d : Option Nat) :
    sendWaiting (endAttempt s st d) = endAttempt s st d := by
  have ended : (endAttempt s st d).attempt = none := endAttempt_attempt s st d (by simp [attempt])
  exact sendWaiting_of_notRanging fun u other => by simp [ended] at other

/-! ### Answers -/

theorem distanceAnswer_of_free {s : State} (free : s.distance = none) (n : Nat) (a : DistanceAnswer) :
    exec (.distanceAnswer n a) s = .next s := by
  simp only [exec, execDistanceAnswer, answerDistance, free]

theorem distanceAnswer_of_other {s : State} {d : DistanceRequest} (flight : s.distance = some d) {n : Nat}
    (other : n ≠ d.number) (a : DistanceAnswer) : exec (.distanceAnswer n a) s = .next s := by
  simp only [exec, execDistanceAnswer, answerDistance, flight, if_neg other.symm]

theorem distanceAnswer_of_same {s : State} {d : DistanceRequest} (flight : s.distance = some d) (a : DistanceAnswer) :
    exec (.distanceAnswer d.number a) s = .next (takeAnswer s d a) := by
  simp only [exec, execDistanceAnswer, answerDistance, flight, if_true]

theorem takeAnswer_of_abandoned {s u : State} {d : DistanceRequest} (abandoned : d.abandoned = true) (freed : Freed s u)
    (a : DistanceAnswer) : takeAnswer s d a = afterEvent u := by
  simp only [takeAnswer, abandoned, if_true, sendWaiting_of_freed freed]

theorem takeAnswer_of_attempt {s : State} {d : DistanceRequest} {t : Attempt} (live : d.abandoned = false)
    (requester : d.requester = .acquisition) (attempt : s.attempt = some t) (ranging : t.phase = .ranging)
    (a : DistanceAnswer) : takeAnswer s d a
      = afterEvent (endAttempt { s with distance := none } (rangeEnding a).1 (rangeEnding a).2) := by
  have answered : attemptAnswer { s with distance := none } a
      = endAttempt { s with distance := none } (rangeEnding a).1 (rangeEnding a).2 :=
    if_pos (by simp [attempt, ranging])
  simp only [takeAnswer, live, requester, answered, Bool.false_eq_true, if_false]
  exact congrArg afterEvent (sendWaiting_endAttempt (by exact attempt) _ _)

theorem rangeEnding_of_within {m : Nat} (low : 10 ≤ m) (high : m ≤ 30000000) :
    rangeEnding (.distance m) = (.locked, some m) :=
  if_pos ⟨low, high⟩

theorem rangeEnding_of_outside {m : Nat} (out : m < 10 ∨ 30000000 < m) :
    rangeEnding (.distance m) = (.lockedNoRange, none) :=
  if_neg (by omega)

theorem takeAnswer_of_track {s : State} {d : DistanceRequest} (live : d.abandoned = false)
    (requester : d.requester = .track)
    (a : DistanceAnswer) : takeAnswer s d a = afterEvent (sendWaiting (trackAnswer { s with distance := none } a)) := by
  simp only [takeAnswer, live, requester]; rfl

theorem trackAnswer_of_within {s : State} {t : Track} (track : s.track = some t) {m : Nat} (low : 10 ≤ m)
    (high : m ≤ 30000000) :
    trackAnswer s (.distance m) = { s with track := some { t with latestDistance := some m } } := by
  rw [trackAnswer, if_pos ⟨low, high⟩, track]; rfl

theorem trackAnswer_of_outside (s : State) {m : Nat} (out : m < 10 ∨ 30000000 < m) : trackAnswer s (.distance m) = s :=
  if_neg (by omega)

/-! ### Expiry -/

theorem distanceExpiry_of_arrived {s : State} {d : DistanceRequest} (flight : s.distance = some d)
    (now : Arrives s d.expiry) :
    exec .distanceExpiry s = .next (takeExpiry s d) := by
  simp only [exec, execDistanceExpiry, expireRequest, flight, (arrives_iff s d.expiry).mpr now, if_true]

theorem takeExpiry_of_attempt {s : State} {d : DistanceRequest} {t : Attempt} (live : d.abandoned = false)
    (requester : d.requester = .acquisition) (attempt : s.attempt = some t) (ranging : t.phase = .ranging) :
    takeExpiry s d = afterEvent (endAttempt { later s d.expiry with distance := none } .lockedNoRange none) := by
  have waits :
      ({ reach s d.expiry with distance := none } : State).attempt.any (fun t => t.phase = .ranging) = true := by
    simp [reach, attempt, ranging]
  simp only [takeExpiry, live, requester, waits, if_true, Bool.false_eq_true, if_false]
  exact congrArg afterEvent (sendWaiting_endAttempt (by exact attempt) _ _)

/-- R120: an expiry that ends no attempt makes the record FREE. -/
theorem takeExpiry_of_freed {s u : State} {d : DistanceRequest}
    (quiet : d.abandoned = true ∨ d.requester = .track ∨ NotRanging s) (freed : Freed (later s d.expiry) u) :
    takeExpiry s d = afterEvent u := by
  have expired : takeExpiry s d = afterEvent (sendWaiting { later s d.expiry with distance := none }) := by
    unfold takeExpiry
    cases abandoned : d.abandoned with
    | true => rfl
    | false =>
      cases requester : d.requester with
      | track => rfl
      | acquisition =>
        have idle : NotRanging s := by simpa [abandoned, requester] using quiet
        have waits : ¬ s.attempt.any (fun t => t.phase = .ranging) = true := by
          cases attempt : s.attempt with
          | none => decide
          | some t => simpa using idle t attempt
        exact congrArg (fun v => afterEvent (sendWaiting v)) (if_neg (by exact waits))
  rw [expired, sendWaiting_of_freed freed]

/-- Settles O53: the answers to the request of an attempt, of none, of a requester that left and of the track; the
expiry. -/
theorem distanceRequestEnds : Obligations.DistanceRequestEnds := by
  refine ⟨fun s n a free => distanceAnswer_of_free free n a,
      fun s d a flight => ⟨fun t live requester attempt ranging => ?_,
    fun n other => distanceAnswer_of_other flight other a, fun abandoned u freed => ?_,
        fun t live requester track => ?_,
    fun quiet now u freed => ?_⟩⟩
  · have ends (b : DistanceAnswer) := takeAnswer_of_attempt live requester attempt ranging b
    simp only [distanceAnswer_of_same flight, ends]
    refine ⟨fun m low high => ?_, fun m out => ?_, rfl, rfl, fun now => ?_⟩
    · rw [rangeEnding_of_within low high]
    · rw [rangeEnding_of_outside out]
    · rw [distanceExpiry_of_arrived flight now, takeExpiry_of_attempt live requester attempt ranging]
  · rw [distanceAnswer_of_same flight, takeAnswer_of_abandoned abandoned freed]
  · simp only [distanceAnswer_of_same flight, takeAnswer_of_track live requester]
    refine ⟨fun m low high u freed => ?_, fun u freed => ⟨fun m out => ?_, ?_, ?_⟩⟩
    · rw [trackAnswer_of_within (by exact track) low high, ← sendWaiting_of_freed freed]
    · rw [trackAnswer_of_outside _ out, sendWaiting_of_freed freed]
    · rw [← sendWaiting_of_freed freed]; rfl
    · rw [← sendWaiting_of_freed freed]; rfl
  · rw [distanceExpiry_of_arrived flight now, takeExpiry_of_freed quiet freed]

end Sys2Proof.Machine
end
